-- ==== Sys2Proof/Word.lean ====
section
/-!
DEFINITION. The words and index types of the KT2608.
Bytes and ticks are bit vectors, because the manual gives their bits and their wrapping; indexes of
lines, drops, stations, records and sequences are bounded naturals.
-/

namespace Sys2Proof

/-- A byte of the controller port or of a station line. -/
abbrev Byte := BitVec 8

/-- A value of the tick count, kept modulo 2^32 (R118). -/
abbrev Tick := BitVec 32

/-- Lines 0 to 7. -/
abbrev LineNo := Fin 8

/-- Drops 0 to 7 of a line. -/
abbrev DropNo := Fin 8

/-- Station index 8 × line + drop, 0 to 63 (00_scope.md, Terms). -/
abbrev StationIdx := Fin 64

/-- Index of a record of the Exchange Table, 0 to 47 (R1). -/
abbrev RecordIdx := Fin 48

/-- A sequence number, 0 to 15 (R70). -/
abbrev SeqNo := Fin 16

/-- A record's generation, 0 to 15 (R18); addition wraps modulo 16. -/
abbrev Gen := Fin 16

/-- The station index of a line and a drop. -/
def stationAt (n : LineNo) (d : DropNo) : StationIdx := ⟨8 * n.val + d.val, by omega⟩

/-- The line of a station index. -/
def lineOf (st : StationIdx) : LineNo := ⟨st.val / 8, by omega⟩

/-- The drop of a station index. -/
def dropOf (st : StationIdx) : DropNo := ⟨st.val % 8, by omega⟩

/-- A natural number as a byte. -/
def byteOf (n : Nat) : Byte := BitVec.ofNat 8 n

/-- The high byte of a 16-bit value: fields of several bytes are sent high byte first (chapter 12). -/
def highByte (v : Nat) : Byte := byteOf (v / 256)

/-- The low byte of a 16-bit value. -/
def lowByte (v : Nat) : Byte := byteOf (v % 256)

/-- The value of two bytes, high byte first. -/
def wordOf (hi lo : Byte) : Nat := hi.toNat * 256 + lo.toNat

end Sys2Proof
end

