-- ==== Sys2Proof/Config.lean ====
section
/-!
DEFINITION. What the manual leaves open, as constants without a body, and the fixed sizes of the device.
Nothing in Lean can evaluate the free values or prove a value of them.
-/

namespace Sys2Proof

/-- Free value [log 2]: which of several events that the device's own clock causes at one instant is
taken first (00_scope.md: "Events that touch different state are not ordered"; R119). -/
opaque Config.eventChoice : Nat → Nat

/-- Free value [log 7]: whether an assertion of RESETn of 1 to 3 REFCLK periods acts as a pin reset
(R205: "An assertion between the two either acts as a pin reset or has no effect"). -/
opaque Config.shortResetActs : Nat → Bool

/-- The start byte of every frame (R101). -/
def Config.startByte : Byte := 0xC5#8

/-- Capacity of a line's control queue (R86). -/
def Config.controlCapacity : Nat := 16

/-- Longest payload of a request and of a frame (R26, R101). -/
def Config.maxPayload : Nat := 32

/-- Longest reply (R5). -/
def Config.maxReply : Nat := 64

end Sys2Proof
end

