-- ==== Sys2Proof/Syntax.lean ====
section
/-!
DEFINITION. The commands of the KT2608: one constructor per row of spec/opcode_table.json.
The table gives no operands; those below are the ones the row's rule names.
-/

namespace Sys2Proof

/-- The fields of an upstream frame other than its kind, which the command's name gives (R101, R202). -/
structure UpFields where
  drop : DropNo
  seq : SeqNo
  segment : Fin 4
  last : Bool
  rep : Bool
  kindByte : Byte
  payload : List Byte
  deriving DecidableEq, Repr

/-- Why the device stops operating without RESETn (R197). -/
inductive LossCause where
  | refclk
  | supply
  deriving DecidableEq, Repr

/-- The commands: every event of the table, from the controller, the stations, the pins or the
device's own clock. -/
inductive Instr where
  /-- TRANSACTION_START (R184): CSn falls. -/
  | transactionStart
  /-- READ_STATUS (R190): its opcode byte completes. -/
  | readStatus
  /-- POST_ADMISSION (R27): the fourth header byte of a POST completes. -/
  | postAdmission (h1 h2 h3 h4 : Byte)
  /-- POST_COMMIT (R10): CSn rises on a POST that reserved a record. -/
  | postCommit
  /-- CANCEL (R36): the handle's index and generation bytes complete. -/
  | cancel (index gen : Byte)
  /-- COLLECT (R144): the handle completes. -/
  | collect (index gen : Byte)
  /-- COLLECT_NEXT (R143): its opcode byte completes. -/
  | collectNext
  /-- COLLECTION (R146): CSn rises on a collection whose summary was clocked out. -/
  | collection
  /-- READ_RECORD (R148): the handle completes. -/
  | readRecord (index gen : Byte)
  /-- READ_STATION (R191): the station byte completes. -/
  | readStation (station : Byte)
  /-- READ_STATION_CHANGES (R66): the next response byte begins. -/
  | readStationChanges
  /-- STATION_CHANGES_CLEAR (R66): CSn rises on a READ STATION CHANGES. -/
  | stationChangesClear
  /-- ENABLE_STATION (R61): the station byte completes. -/
  | enableStation (station : Byte)
  /-- DISABLE_STATION (R60): the station byte completes. -/
  | disableStation (station : Byte)
  /-- ACK_ATTENTION (R158): the station byte completes. -/
  | ackAttention (station : Byte)
  /-- ATTENTION_ACKNOWLEDGE (R158): CSn rises on a fully clocked ACK ATTENTION. -/
  | attentionAcknowledge
  /-- READ_LINE (R170): the line byte completes. -/
  | readLine (line : Byte)
  /-- QUIESCE_FINISHED_CLEAR (R170): CSn rises on a READ LINE that reported the marker. -/
  | quiesceFinishedClear
  /-- QUIESCE_LINE (R161): the line byte completes. -/
  | quiesceLine (line : Byte)
  /-- RESUME_LINE (R169): the line byte completes. -/
  | resumeLine (line : Byte)
  /-- LINE_RESET (R196): CSn rises on a LINE RESET. -/
  | lineReset (line : Byte)
  /-- LINE_RESET_ACT (R97): a transmitter becomes IDLE while a line reset waits. -/
  | lineResetAct (line : LineNo)
  /-- SET_PARAMETER (R192): CSn rises on a SET PARAMETER. -/
  | setParameter (number index : Byte) (value : BitVec 16)
  /-- LINE_ENABLE_ON (R111): SET PARAMETER of LINE_ENABLE with value 1. -/
  | lineEnableOn (line : LineNo)
  /-- LINE_ENABLE_OFF (R114): SET PARAMETER of LINE_ENABLE with value 0. -/
  | lineEnableOff (line : LineNo)
  /-- SET_LINE_RATE (R99). -/
  | setLineRate (line : LineNo) (value : BitVec 16)
  /-- SET_WINDOW_LIMIT (R50). -/
  | setWindowLimit (line : LineNo) (value : BitVec 16)
  /-- SET_TICK_DIVIDER (R118). -/
  | setTickDivider (value : BitVec 16)
  /-- SET_URGENT_RESERVE (R20). -/
  | setUrgentReserve (value : BitVec 16)
  /-- SET_COALESCE_COUNT (R152). -/
  | setCoalesceCount (value : BitVec 16)
  /-- SET_NOTE_ENABLE (R153). -/
  | setNoteEnable (value : BitVec 16)
  /-- SET_ERROR_CLASS (R176): `kind` is the index byte, the error kind's code. -/
  | setErrorClass (kind : Byte) (value : BitVec 16)
  /-- SET_FAULT_ENABLE (R177): `kind` is the index byte, the error kind's code. -/
  | setFaultEnable (kind : Byte) (value : BitVec 16)
  /-- READ_PARAMETER (R193): the index byte completes. -/
  | readParameter (number index : Byte)
  /-- READ_ERRORS (R178): its opcode byte completes. -/
  | readErrors
  /-- CLEAR_ERRORS (R179): CSn rises. -/
  | clearErrors
  /-- SOFT_RESET (R195): CSn rises. -/
  | softReset
  /-- RESET_PERIOD_END (R195): the last busy transmitter becomes IDLE while RESETTING is 1. -/
  | resetPeriodEnd
  /-- UNKNOWN_OPCODE (R188): CSn rises on a transaction with this opcode. -/
  | unknownOpcode (opcode : Byte)
  /-- SHORT_INSTRUCTION (R187): CSn rises before all parameter bytes have arrived. -/
  | shortInstruction
  /-- PIN_RESET (R197, R205): RESETn is asserted; `periods` is the length of the assertion in whole
  REFCLK periods, of which R205 makes the effect depend. -/
  | pinReset (periods : Nat)
  /-- RESETN_RELEASE (R197): RESETn is released. -/
  | resetnRelease
  /-- POWER_ON_RESET (R197): supply applied. -/
  | powerOnReset
  /-- TICK (R118): a tick boundary. -/
  | tick
  /-- LINK_UP (R112): the mark run reaches 4 character times. -/
  | linkUp (line : LineNo)
  /-- LINK_DOWN (R113): the space run reaches 2 character times. -/
  | linkDown (line : LineNo)
  /-- REPLY (R123): a good REPLY frame completes. -/
  | reply (line : LineNo) (f : UpFields)
  /-- HOLDOFF (R129): a good HOLDOFF frame completes. -/
  | holdoff (line : LineNo) (f : UpFields)
  /-- PROBE_ANSWER (R47): a good PROBE_ANSWER frame completes. -/
  | probeAnswer (line : LineNo) (f : UpFields)
  /-- ATTENTION (R156): a good ATTENTION frame completes. -/
  | attention (line : LineNo) (f : UpFields)
  /-- QUIESCE_ACK (R164): a good QUIESCE_ACK frame completes. -/
  | quiesceAck (line : LineNo) (f : UpFields)
  /-- CHAR_ERROR (R106): a bad character completes. -/
  | charError (line : LineNo)
  /-- FORMAT_ERROR (R107): the fourth header byte of a frame with a bad header arrives. -/
  | formatError (line : LineNo) (h1 h2 h3 h4 : Byte)
  /-- CHECK_ERROR (R108): the second check byte arrives and the check disagrees. -/
  | checkError (line : LineNo) (h1 h2 h3 h4 : Byte) (payload : List Byte) (c1 c2 : Byte)
  /-- RECEIVE_GAP_EXPIRY (R105): more than 2 character times of idle inside a frame. -/
  | receiveGapExpiry (line : LineNo)
  /-- DISCARD_IDLE_END (R104): more than 2 character times of idle while DISCARDING. -/
  | discardIdleEnd (line : LineNo)
  /-- TRANSMIT_END (R93): the last character of the frame on the wire ends. -/
  | transmitEnd (line : LineNo)
  /-- STOPPING_END (R95): the character in progress of a cut frame ends. -/
  | stoppingEnd (line : LineNo)
  /-- REPLY_DEADLINE_EXPIRY (R131). -/
  | replyDeadlineExpiry (record : RecordIdx)
  /-- SEGMENT_DEADLINE_EXPIRY (R134). -/
  | segmentDeadlineExpiry (record : RecordIdx)
  /-- HOLDOFF_DEADLINE_EXPIRY (R135). -/
  | holdoffDeadlineExpiry (record : RecordIdx)
  /-- FENCE_EXPIRY (R74). -/
  | fenceExpiry (station : StationIdx)
  /-- PROBE_DUE (R63). -/
  | probeDue (station : StationIdx)
  /-- IDLE_TIMER_EXPIRY (R150). -/
  | idleTimerExpiry
  /-- QUIESCE_DEADLINE_EXPIRY (R166). -/
  | quiesceDeadlineExpiry (line : LineNo)
  /-- BYTE_ARRIVAL (R183): the eighth bit of a byte is sampled on SDI. -/
  | byteArrival (b : Byte)
  /-- TRANSACTION_END (R183): CSn rises. -/
  | transactionEnd
  /-- GOOD_CHARACTER (R104): a good character completes on RXD. -/
  | goodCharacter (line : LineNo) (b : Byte)
  /-- RXD_TRANSITION (R110): the level of RXD changes. -/
  | rxdTransition (line : LineNo)
  /-- REFCLK_LOSS (R197): REFCLK stops, or the supply falls below its range. -/
  | refclkLoss (cause : LossCause)
  /-- REFCLK_RETURN (R197): REFCLK runs again. -/
  | refclkReturn
  deriving DecidableEq, Repr

end Sys2Proof
end

