-- ==== Sys2Proof/Decode.lean ====
section
/-!
DEFINITION. The opcodes of the controller port, and the host's decodeTableWord.
spec/opcode_table.json gives no row any bits, so no word spells a command [log 18]; what the device
itself decodes from bits, the opcode byte of a transaction, is here, and frame headers are in
Machine/Formats.lean.
-/

namespace Sys2Proof

/-- The instructions of the controller port (R203). -/
inductive Opcode where
  | readStatus | post | cancel | collect | collectNext | readRecord | readStation | readStationChanges
  | enableStation | disableStation | ackAttention | readLine | quiesceLine | resumeLine | lineReset
  | setParameter | readParameter | readErrors | clearErrors | softReset
  deriving DecidableEq, Repr

/-- The opcode byte of each instruction (R203). -/
def Opcode.code : Opcode → Byte
  | .readStatus => 0xA1#8
  | .post => 0xA4#8
  | .cancel => 0xA6#8
  | .collect => 0xA8#8
  | .collectNext => 0xA9#8
  | .readRecord => 0xAA#8
  | .readStation => 0xB1#8
  | .readStationChanges => 0xB2#8
  | .enableStation => 0xB4#8
  | .disableStation => 0xB5#8
  | .ackAttention => 0xB6#8
  | .readLine => 0xC1#8
  | .quiesceLine => 0xC4#8
  | .resumeLine => 0xC5#8
  | .lineReset => 0xC6#8
  | .setParameter => 0xD1#8
  | .readParameter => 0xD2#8
  | .readErrors => 0xD4#8
  | .clearErrors => 0xD5#8
  | .softReset => 0xDE#8

/-- All instructions of R203. -/
def Opcode.all : List Opcode :=
  [.readStatus, .post, .cancel, .collect, .collectNext, .readRecord, .readStation, .readStationChanges,
   .enableStation, .disableStation, .ackAttention, .readLine, .quiesceLine, .resumeLine, .lineReset,
   .setParameter, .readParameter, .readErrors, .clearErrors, .softReset]

/-- The instruction an opcode byte names; none for an unknown opcode (R188, R203). -/
def Opcode.ofByte (b : Byte) : Option Opcode := Opcode.all.find? (fun o => o.code == b)

/-- How many parameter bytes an instruction has before its decision (R185). For a POST these are the
four header bytes; its turnaround and payload bytes are counted apart (R25). -/
def Opcode.paramCount : Opcode → Nat
  | .readStatus => 0
  | .post => 4
  | .cancel => 2
  | .collect => 2
  | .collectNext => 0
  | .readRecord => 2
  | .readStation => 1
  | .readStationChanges => 0
  | .enableStation => 1
  | .disableStation => 1
  | .ackAttention => 1
  | .readLine => 1
  | .quiesceLine => 1
  | .resumeLine => 1
  | .lineReset => 1
  | .setParameter => 4
  | .readParameter => 2
  | .readErrors => 0
  | .clearErrors => 0
  | .softReset => 0

/-- The command a table word spells: none, since the table gives its rows no bits [log 18]. -/
def decodeTableWord (_nbits _w : Nat) : Option Instr := none

end Sys2Proof
end

