-- ==== Sys2Proof/Machine/State.lean ====
section
/-!
DEFINITION. The state of the KT2608 as plain data, and its value after power-on and pin reset.
Derived quantities (the free count, the held count, the pins NOTEn, FAULTn, SDO, TXD and DENn) are
views and are not kept.
-/

namespace Sys2Proof.Machine

/-- The nine record states (section 1.2); `partly` is PARTIAL. -/
inductive RecState where
  | free | reserved | queued | transmitting | sent | partly | deferred | done | failed
  deriving DecidableEq, Repr

/-- NORMAL or URGENT (R1). -/
inductive Priority where
  | normal | urgent
  deriving DecidableEq, Repr

/-- The outcomes of an exchange (R6). -/
inductive ExchOutcome where
  | done | timeout | cancelled | stationLost | stationDisabled | lineDown | lineReset | heldOff
  | segmentError | replyOverrun
  deriving DecidableEq, Repr

/-- The kinds of record deadline (R7, R120). -/
inductive DeadlineKind where
  | reply | segment | holdoff
  deriving DecidableEq, Repr

/-- A running record deadline: its kind and its expiry tick (R7). -/
structure Deadline where
  kind : DeadlineKind
  expiry : Tick
  deriving DecidableEq, Repr

/-- The name of a record: its index and a generation (00_scope.md, Terms). -/
structure Handle where
  index : RecordIdx
  gen : Gen
  deriving DecidableEq, Repr

/-- One record of the Exchange Table (R1). In FREE all fields but the generation and the state hold
the fillers of `Record.blank` [log 13]. -/
structure Record where
  gen : Gen
  state : RecState
  station : StationIdx
  opClass : Fin 16
  priority : Priority
  deadlineClass : Fin 4
  retryBudget : Nat
  retriesUsed : Nat
  holdoffs : Nat
  transmissions : Nat
  payload : List Byte
  seq : Option SeqNo
  reply : List Byte
  segments : Nat
  status : Option Byte
  outcome : Option ExchOutcome
  deadline : Option Deadline
  deriving DecidableEq, Repr

/-- A FREE record of the given generation: it "holds its generation and state and nothing else" (R1). -/
def Record.blank (g : Gen) : Record :=
  { gen := g, state := .free, station := 0, opClass := 0, priority := .normal, deadlineClass := 0,
    retryBudget := 0, retriesUsed := 0, holdoffs := 0, transmissions := 0, payload := [], seq := none,
    reply := [], segments := 0, status := none, outcome := none, deadline := none }

/-- Station states (section 3.2). -/
inductive StationState where
  | disabled | absent | present | lost
  deriving DecidableEq, Repr

/-- What a station said it is (R45). -/
structure Identity where
  classCode : BitVec 16
  revision : Byte
  deriving DecidableEq, Repr

/-- One entry of the Station Directory (R45). `probeDue` is the standing of R63: the entry is due and
"stays due until its probe is queued or its state leaves ABSENT and LOST" [log 10]. -/
structure Entry where
  state : StationState
  identity : Option Identity
  window : Option Nat
  replaced : Bool
  failures : Nat
  cursor : SeqNo
  fence : Vector (Option Tick) 16
  presented : Option Byte
  pendingCause : Option Byte
  probeTick : Tick
  probeDue : Bool
  ackMark : Bool
  changed : Bool
  deriving DecidableEq, Repr

/-- An entry after power-on and pin reset (R67). -/
def Entry.initial : Entry :=
  { state := .absent, identity := none, window := none, replaced := false, failures := 0, cursor := 0,
    fence := Vector.replicate 16 none, presented := none, pendingCause := none, probeTick := 0,
    probeDue := false, ackMark := false, changed := false }

/-- The frame kinds (R101, R202). -/
inductive FrameKind where
  | request | abandon | probe | quiesce | attnRefused
  | reply | holdoff | probeAnswer | attention | quiesceAck
  deriving DecidableEq, Repr

/-- A frame: header fields and payload (R101, R202). -/
structure Frame where
  kind : FrameKind
  drop : DropNo
  seq : SeqNo
  segment : Fin 4
  last : Bool
  rep : Bool
  kindByte : Byte
  payload : List Byte
  deriving DecidableEq, Repr

/-- The control frames, with their fields (R86). -/
inductive ControlFrame where
  | abandon (drop : DropNo) (seq : SeqNo)
  | probe (drop : DropNo)
  | quiesce (drop : DropNo)
  | attnRefused (drop : DropNo) (cause : Byte)
  deriving DecidableEq, Repr

/-- Where a transmitter stands in its frame: which character, the reference-clock periods spent in it,
and the bit time it is sent with (R99, R103). -/
structure TxPos where
  char : Nat
  elapsed : Nat
  bitTime : Nat
  deriving DecidableEq, Repr

/-- The transmitter conditions (R82). -/
inductive Tx where
  | idle
  | sending (frame : Frame) (handle : Option Handle) (pos : TxPos)
  | stopping (frame : Frame) (pos : TxPos)
  deriving DecidableEq, Repr

/-- The receive conditions (section 6.4); ASSEMBLING holds the bytes after the start byte. -/
inductive RxCond where
  | hunting
  | assembling (bytes : List Byte)
  | discarding
  deriving DecidableEq, Repr

/-- How far the character being sampled has come (R100): `armed`, RXD has gone to space and is not
yet sampled; `bits k left data`, the middle of bit `k` is `left` periods away (bit 0 is the start bit,
bit 9 the stop bit); `complete`, the stop bit has been sampled at mark or not. -/
inductive CharPhase where
  | none
  | armed
  | bits (k : Nat) (left : Nat) (data : Byte)
  | complete (data : Byte) (stopMark : Bool)
  deriving DecidableEq, Repr

/-- Link conditions (R110). -/
inductive Link where
  | off | down | up
  deriving DecidableEq, Repr

/-- Line service states (section 9.3). -/
inductive Service where
  | opened | draining | awaitingAcks | quiesced
  deriving DecidableEq, Repr

/-- How the last quiesce reached QUIESCED (R160). -/
inductive QuiesceOutcome where
  | allAcked | deadline
  deriving DecidableEq, Repr

/-- One line: its Line Dispatcher, line service and Station Link (R82, R160, R110, section 6.4). -/
structure Line where
  link : Link
  markRun : Nat
  spaceRun : Nat
  rx : RxCond
  phase : CharPhase
  quiet : Nat
  tx : Tx
  dispatchQ : List Handle
  controlQ : List ControlFrame
  resetWaiting : Bool
  service : Service
  quiesceDeadline : Option Tick
  quiesceOutcome : Option QuiesceOutcome
  quiesceFinished : Bool
  deriving DecidableEq, Repr

/-- A line after power-on and pin reset (R98, R117, R171). -/
def Line.initial : Line :=
  { link := .off, markRun := 0, spaceRun := 0, rx := .hunting, phase := .none, quiet := 0, tx := .idle,
    dispatchQ := [], controlQ := [], resetWaiting := false, service := .opened, quiesceDeadline := none,
    quiesceOutcome := none, quiesceFinished := false }

/-- The eleven error kinds, in the order of R172. -/
inductive ErrorKind where
  | charError | checkError | formatError | unexpectedReply | lateReply | segmentError | replyOverrun
  | strayFrame | attentionRefused | controlDropped | commandError
  deriving DecidableEq, Repr

/-- NOTICE or ALERT (R172). -/
inductive ErrorClass where
  | notice | alert
  deriving DecidableEq, Repr

/-- One error occurrence with the fields of R174; the header, when present, is four bytes. -/
structure Occurrence where
  kind : ErrorKind
  line : Option LineNo
  drop : Option DropNo
  seq : Option SeqNo
  header : Option (List Byte)
  opcode : Option Byte
  deriving DecidableEq, Repr

/-- The account of Fault Reporting (R172); classes and FAULT enables are parameters. -/
structure FaultAccount where
  counters : Vector Nat 11
  alerts : Vector Bool 11
  capture : Option Occurrence
  further : Nat
  deriving DecidableEq, Repr

/-- The empty account (R179, R182). -/
def FaultAccount.empty : FaultAccount :=
  { counters := Vector.replicate 11 0, alerts := Vector.replicate 11 false, capture := none, further := 0 }

/-- The Parameter Store (R204); values are kept in their ranges [log 21]. -/
structure Params where
  tickDivider : Nat
  lineEnable : Vector Bool 8
  lineRate : Vector Nat 8
  windowLimit : Vector Nat 8
  probeInterval : Vector Nat 8
  deadlineClass : Vector Nat 4
  segmentInterval : Nat
  holdoffMinimum : Nat
  holdoffLimit : Nat
  quarantineInterval : Nat
  lossThreshold : Nat
  urgentReserve : Nat
  coalesceCount : Nat
  coalesceIdle : Nat
  quiesceDeadline : Nat
  noteEnable : BitVec 4
  errorClass : Vector ErrorClass 11
  faultEnable : Vector Bool 11
  deriving DecidableEq, Repr

/-- The defaults of R204 and R172. -/
def Params.defaults : Params :=
  { tickDivider := 1600
    lineEnable := Vector.replicate 8 false
    lineRate := Vector.replicate 8 139
    windowLimit := Vector.replicate 8 4
    probeInterval := Vector.replicate 8 10000
    deadlineClass := #v[100, 500, 2000, 10000]
    segmentInterval := 50
    holdoffMinimum := 100
    holdoffLimit := 8
    quarantineInterval := 2000
    lossThreshold := 3
    urgentReserve := 4
    coalesceCount := 1
    coalesceIdle := 10
    quiesceDeadline := 5000
    noteEnable := 14#4
    errorClass := #v[.notice, .notice, .notice, .alert, .notice, .alert, .alert, .notice, .notice, .alert, .alert]
    faultEnable := Vector.replicate 11 true }

/-- Whether the port has a transaction open, or waits for CSn to rise after a reset (R183, R197). -/
inductive PortPhase where
  | closed | waiting | opened
  deriving DecidableEq, Repr

/-- The transaction in progress (R183). `bytes` is the opcode followed by the parameter bytes that
have arrived; `named` is the record a collection names (R143, R144); `ackVoid` is set when a line reset
of the station's line acts after an ACK ATTENTION's snapshot (R158). -/
structure Port where
  phase : PortPhase
  status : Byte
  count : Nat
  bytes : List Byte
  taken : Bool
  response : List Byte
  clocked : Nat
  reserved : Option RecordIdx
  named : Option RecordIdx
  ackVoid : Bool
  deriving DecidableEq, Repr

/-- The port without a transaction: "All of this is discarded at the rise of CSn" (R183). -/
def Port.idle : Port :=
  { phase := .closed, status := 0#8, count := 0, bytes := [], taken := false, response := [], clocked := 0,
    reserved := none, named := none, ackVoid := false }

/-- Levels of the input pins CSn and RXD0 to RXD7 (R100, R183) [log 8]. -/
structure Pins where
  csnHigh : Bool
  rxdMark : Vector Bool 8
  deriving DecidableEq, Repr

/-- The three conditions of R197 under which the device operates. -/
structure Power where
  supply : Bool
  refclk : Bool
  resetHeld : Bool
  deriving DecidableEq, Repr

/-- The whole device, and the queue of commands that wait. -/
structure State where
  records : Vector Record 48
  stations : Vector Entry 64
  lines : Vector Line 8
  completionQ : List RecordIdx
  signalC : Bool
  idleTimer : Option Tick
  faults : FaultAccount
  params : Params
  tick : Tick
  tickPhase : Nat
  tickLength : Nat
  port : Port
  resetting : Bool
  pins : Pins
  power : Power
  /-- The model's own [log 2, log 7]: how many free choices have been made. -/
  choices : Nat
  /-- The model's own: the commands that wait, first in, first out. -/
  pending : List Instr
  deriving DecidableEq, Repr

/-- No step of this device stops with a fault: every error of the manual is a report (R173) or an
outcome (R6), after which the device goes on. The type has no constructor, so nothing raises one. -/
inductive Fault where
  deriving DecidableEq, Repr

/-- Refusals. -/
inductive Refusal where
  /-- Raised only by an arm of `exec` for a command that has no meaning yet: safe, nothing can be
  proved of such a command. No arm raises it now. -/
  | notModelled (mnemonic : String)
  deriving DecidableEq, Repr

/-- The machine right after power-on or pin reset (R22, R67, R98, R117, R118, R154, R171, R182, R197),
operating, with CSn high and every RXD at mark [log 8, log 22]. -/
def State.reset : State :=
  { records := Vector.replicate 48 (Record.blank 0)
    stations := Vector.replicate 64 Entry.initial
    lines := Vector.replicate 8 Line.initial
    completionQ := []
    signalC := false
    idleTimer := none
    faults := FaultAccount.empty
    params := Params.defaults
    tick := 0
    tickPhase := 0
    tickLength := 1600
    port := Port.idle
    resetting := false
    pins := { csnHigh := true, rxdMark := Vector.replicate 8 true }
    power := { supply := true, refclk := true, resetHeld := false }
    choices := 0
    pending := [] }

end Sys2Proof.Machine
end

