-- ==== Sys2Proof/Machine/Formats.lean ====
section
/-!
DEFINITION. The byte layouts of chapter 12: frame headers and the frame check, and the codes of states,
outcomes, results and error kinds.
-/

namespace Sys2Proof.Machine

/-! ### Wire frames (R101, R102, R202) -/

/-- Kind codes (R202). -/
def FrameKind.code : FrameKind → Nat
  | .request => 1
  | .abandon => 2
  | .probe => 3
  | .quiesce => 4
  | .attnRefused => 5
  | .reply => 9
  | .holdoff => 10
  | .probeAnswer => 11
  | .attention => 12
  | .quiesceAck => 13

/-- The upstream kind a code names; none for a downstream code and for a code of no kind (R107, R202). -/
def FrameKind.upstreamOfCode : Nat → Option FrameKind
  | 9 => some .reply
  | 10 => some .holdoff
  | 11 => some .probeAnswer
  | 12 => some .attention
  | 13 => some .quiesceAck
  | _ => none

/-- A flag as the value of its bit. -/
def bitValue (b : Bool) (weight : Nat) : Nat := if b then weight else 0

/-- The four header bytes of a frame (R202). -/
def Frame.header (f : Frame) : List Byte :=
  [ byteOf (f.kind.code * 16 + f.drop.val),
    byteOf (f.seq.val * 16 + bitValue f.last 8 + bitValue f.rep 4 + f.segment.val),
    f.kindByte,
    byteOf f.payload.length ]

/-- One shift of the check register, generator x^16 + x^12 + x^5 + 1 (R102). -/
def crcShift (c : BitVec 16) : BitVec 16 := if c.msb then (c <<< 1) ^^^ 0x1021#16 else c <<< 1

/-- One byte shifted into the check register, most significant bit first (R102). -/
def crcByte (c : BitVec 16) (b : Byte) : BitVec 16 :=
  crcShift (crcShift (crcShift (crcShift (crcShift (crcShift (crcShift (crcShift
    (c ^^^ (b.setWidth 16 <<< 8)))))))))

/-- The check over the header and payload bytes, the register loaded with all ones (R102). -/
def crc16 (bs : List Byte) : BitVec 16 := bs.foldl crcByte 0xFFFF#16

/-- The two check bytes, high byte first (R102). -/
def checkBytes (bs : List Byte) : List Byte := [highByte (crc16 bs).toNat, lowByte (crc16 bs).toNat]

/-- The characters after the start byte: header, payload and check (R101). -/
def Frame.body (f : Frame) : List Byte :=
  f.header ++ f.payload ++ checkBytes (f.header ++ f.payload)

/-- All 7 + L characters of a frame (R101, R103). -/
def Frame.wire (f : Frame) : List Byte := Config.startByte :: f.body

/-- The header checks of R107 on the first and the fourth header byte. -/
def headerGood (h1 h4 : Byte) : Bool :=
  !h1.getLsbD 3 && (FrameKind.upstreamOfCode (h1.toNat / 16)).isSome
    && decide (h4.toNat ≤ Config.maxPayload)

/-- The drop a first header byte names (R202). -/
def dropOfHeader (h1 : Byte) : DropNo := ⟨h1.toNat % 8, by omega⟩

/-- The sequence a second header byte names (R202). -/
def seqOfHeader (h2 : Byte) : SeqNo := ⟨h2.toNat / 16, by have := h2.isLt; omega⟩

/-- The upstream kind a first header byte names (R202). -/
def kindOfHeader (h1 : Byte) : Option FrameKind := FrameKind.upstreamOfCode (h1.toNat / 16)

/-- The fields of a received frame (R202). -/
def fieldsOf (h1 h2 h3 : Byte) (payload : List Byte) : UpFields :=
  { drop := dropOfHeader h1, seq := seqOfHeader h2, segment := ⟨h2.toNat % 4, by omega⟩,
    last := h2.getLsbD 3, rep := h2.getLsbD 2, kindByte := h3, payload := payload }

end Sys2Proof.Machine

namespace Sys2Proof

/-- An upstream frame of a kind, from its fields. -/
def UpFields.frame (f : UpFields) (k : Machine.FrameKind) : Machine.Frame :=
  { kind := k, drop := f.drop, seq := f.seq, segment := f.segment, last := f.last, rep := f.rep,
    kindByte := f.kindByte, payload := f.payload }

end Sys2Proof

namespace Sys2Proof.Machine

/-- The frame of a control frame (R92). -/
def ControlFrame.frame : ControlFrame → Frame
  | .abandon d q => { kind := .abandon, drop := d, seq := q, segment := 0, last := true, rep := false, kindByte := 0, payload := [] }
  | .probe d => { kind := .probe, drop := d, seq := 0, segment := 0, last := true, rep := false, kindByte := 0, payload := [] }
  | .quiesce d => { kind := .quiesce, drop := d, seq := 0, segment := 0, last := true, rep := false, kindByte := 0, payload := [] }
  | .attnRefused d c => { kind := .attnRefused, drop := d, seq := 0, segment := 0, last := true, rep := false, kindByte := c, payload := [] }

/-- The drop a control frame addresses (R86). -/
def ControlFrame.drop : ControlFrame → DropNo
  | .abandon d _ => d
  | .probe d => d
  | .quiesce d => d
  | .attnRefused d _ => d

/-- The sequence an ABANDON carries (R86, R87). -/
def ControlFrame.seq? : ControlFrame → Option SeqNo
  | .abandon _ q => some q
  | .probe _ => none
  | .quiesce _ => none
  | .attnRefused _ _ => none

/-- The REQUEST frame of a record under a sequence (R11, R92): REPEAT is set when transmissions was 1
or more before this dispatch. -/
def Record.requestFrame (x : Record) (q : SeqNo) : Frame :=
  { kind := .request, drop := dropOf x.station, seq := q, segment := 0, last := true,
    rep := decide (1 ≤ x.transmissions), kindByte := byteOf x.opClass.val, payload := x.payload }

/-! ### Codes on the port (R198 to R201) -/

/-- Result codes (R198). -/
inductive ResultCode where
  | ok | cancelled | alreadyComplete | staleHandle | empty | notComplete | alreadyDisabled | notDisabled
  | noCause | notOpen | alreadyOpen
  deriving DecidableEq, Repr

/-- The byte of a result code (R198). -/
def ResultCode.byte : ResultCode → Byte
  | .ok => 0x00#8
  | .cancelled => 0x01#8
  | .alreadyComplete => 0x02#8
  | .staleHandle => 0x03#8
  | .empty => 0x04#8
  | .notComplete => 0x05#8
  | .alreadyDisabled => 0x06#8
  | .notDisabled => 0x07#8
  | .noCause => 0x08#8
  | .notOpen => 0x09#8
  | .alreadyOpen => 0x0A#8

/-- Admission codes (R199). -/
inductive AdmissionCode where
  | accepted | badRequest | lineNotUp | lineQuiesced | stationAbsent | stationLost | stationDisabled
  | tableFull
  deriving DecidableEq, Repr

/-- The value of an admission code (R199). -/
def AdmissionCode.value : AdmissionCode → Nat
  | .accepted => 0
  | .badRequest => 1
  | .lineNotUp => 2
  | .lineQuiesced => 3
  | .stationAbsent => 4
  | .stationLost => 5
  | .stationDisabled => 6
  | .tableFull => 7

/-- Outcome codes (R198). -/
def ExchOutcome.code : ExchOutcome → Byte
  | .done => 0#8
  | .timeout => 1#8
  | .cancelled => 2#8
  | .stationLost => 3#8
  | .stationDisabled => 4#8
  | .lineDown => 5#8
  | .lineReset => 6#8
  | .heldOff => 7#8
  | .segmentError => 8#8
  | .replyOverrun => 9#8

/-- Record state codes (R198). -/
def RecState.code : RecState → Byte
  | .free => 0#8
  | .reserved => 1#8
  | .queued => 2#8
  | .transmitting => 3#8
  | .sent => 4#8
  | .partly => 5#8
  | .deferred => 6#8
  | .done => 7#8
  | .failed => 8#8

/-- Deadline kind codes (R201). -/
def DeadlineKind.code : DeadlineKind → Byte
  | .reply => 1#8
  | .segment => 2#8
  | .holdoff => 3#8

/-- Error kind codes, in the order of R172 (R198). -/
def ErrorKind.code : ErrorKind → Fin 11
  | .charError => 0
  | .checkError => 1
  | .formatError => 2
  | .unexpectedReply => 3
  | .lateReply => 4
  | .segmentError => 5
  | .replyOverrun => 6
  | .strayFrame => 7
  | .attentionRefused => 8
  | .controlDropped => 9
  | .commandError => 10

/-- Link condition codes (R201). -/
def Link.code : Link → Nat
  | .off => 0
  | .down => 1
  | .up => 2

/-- Service state codes (R201). -/
def Service.code : Service → Nat
  | .opened => 0
  | .draining => 1
  | .awaitingAcks => 2
  | .quiesced => 3

/-- Quiesce outcome codes, absent 0 (R201). -/
def quiesceOutcomeCode : Option QuiesceOutcome → Nat
  | none => 0
  | some .allAcked => 1
  | some .deadline => 2

/-- Station state codes (R201). -/
def StationState.code : StationState → Nat
  | .disabled => 0
  | .absent => 1
  | .present => 2
  | .lost => 3

/-- The byte that reports the absence of a field, and that follows every response (R185, R198). -/
def absentByte : Byte := 0xFF#8

/-- The value of a run of flags, the first with weight 1 and each next with twice the weight. -/
def flagsValue : List Bool → Nat
  | [] => 0
  | b :: bs => bitValue b 1 + 2 * flagsValue bs

end Sys2Proof.Machine
end

