-- ==== Sys2Proof/Machine/Ops.lean ====
section
/-!
DEFINITION. The named operations that every meaning is built from: reading and writing one record,
entry or line, the tick arithmetic, Fault Reporting, the completion queue, fences and sequences, the
dispatch and control queues, the arbiter, the line service, the sweeps and the presence sweep.
-/

namespace Sys2Proof.Machine

/-! ### One record, one entry, one line -/

/-- Record `r` of the Exchange Table. -/
def State.record (s : State) (r : RecordIdx) : Record := s.records[r.val]

/-- Replace record `r`. -/
def State.setRecord (s : State) (r : RecordIdx) (x : Record) : State :=
  { s with records := s.records.set r.val x }

/-- Station entry `st`. -/
def State.entry (s : State) (st : StationIdx) : Entry := s.stations[st.val]

/-- Replace entry `st`. -/
def State.setEntry (s : State) (st : StationIdx) (e : Entry) : State :=
  { s with stations := s.stations.set st.val e }

/-- Line `n`. -/
def State.line (s : State) (n : LineNo) : Line := s.lines[n.val]

/-- Replace line `n`. -/
def State.setLine (s : State) (n : LineNo) (l : Line) : State :=
  { s with lines := s.lines.set n.val l }

/-- Change every record by its index and value. -/
def State.mapRecords (f : Record → Record) (s : State) : State :=
  { s with records := Vector.ofFn fun i => f s.records[i.val] }

/-- Change every entry by its station index and value. -/
def State.mapEntries (f : StationIdx → Entry → Entry) (s : State) : State :=
  { s with stations := Vector.ofFn fun i => f i s.stations[i.val] }

/-- Change every line by its number and value. -/
def State.mapLines (f : LineNo → Line → Line) (s : State) : State :=
  { s with lines := Vector.ofFn fun i => f i s.lines[i.val] }

/-- The device operates: supply in range, REFCLK running and RESETn high (R197). -/
def State.operating (s : State) : Bool := s.power.supply && s.power.refclk && !s.power.resetHeld

/-! ### Time (R118, R119) -/

/-- The expiry tick of an interval of `n` ticks started now (R119). -/
def State.after (s : State) (n : Nat) : Tick := s.tick + BitVec.ofNat 32 n

/-- The boundary that ends expiry tick `e` has passed: "It expires at the tick boundary that ends tick
t + N" (R119), the comparison made on the difference from the present count (R118). -/
def State.passed (s : State) (e : Tick) : Bool :=
  decide (0 < (s.tick - e).toNat) && decide ((s.tick - e).toNat < 2147483648)

/-! ### Record states (section 1.2) -/

/-- Live: QUEUED, TRANSMITTING, SENT, PARTIAL or DEFERRED. -/
def RecState.live : RecState → Bool
  | .free => false
  | .reserved => false
  | .queued => true
  | .transmitting => true
  | .sent => true
  | .partly => true
  | .deferred => true
  | .done => false
  | .failed => false

/-- Terminal: DONE or FAILED. -/
def RecState.terminal : RecState → Bool
  | .free => false
  | .reserved => false
  | .queued => false
  | .transmitting => false
  | .sent => false
  | .partly => false
  | .deferred => false
  | .done => true
  | .failed => true

/-- TRANSMITTING, SENT, PARTIAL or DEFERRED: the states a drain waits for (R162). -/
def RecState.inFlight : RecState → Bool
  | .free => false
  | .reserved => false
  | .queued => false
  | .transmitting => true
  | .sent => true
  | .partly => true
  | .deferred => true
  | .done => false
  | .failed => false

/-- Holding a sequence: in flight, or QUEUED with transmissions of 1 or more (R4, R70). -/
def Record.holds (x : Record) : Bool :=
  x.state.inFlight || (x.state == .queued && decide (1 ≤ x.transmissions))

/-- The line of a record's station. -/
def Record.line (x : Record) : LineNo := lineOf x.station

/-- The number of FREE records (R8, R20). -/
def State.freeCount (s : State) : Nat := s.records.toList.countP (fun x => x.state == .free)

/-- The FREE record with the lowest index (R9). -/
def State.lowestFree (s : State) : Option RecordIdx :=
  (List.finRange 48).find? (fun r => (s.record r).state == .free)

/-- The live records that satisfy a condition, in ascending index (R15). -/
def State.liveWhere (s : State) (p : Record → Bool) : List RecordIdx :=
  (List.finRange 48).filter (fun r => (s.record r).state.live && p (s.record r))

/-! ### Fault Reporting (R173) -/

/-- One occurrence taken into the account (R173): the counter saturates at 255, an ALERT kind enters
the set, an empty capture is filled and otherwise the further count increases, saturating at 255. -/
def FaultAccount.take (a : FaultAccount) (c : ErrorClass) (o : Occurrence) : FaultAccount :=
  { counters := a.counters.set o.kind.code.val (min 255 (a.counters[o.kind.code.val] + 1))
    alerts := match c with
      | .alert => a.alerts.set o.kind.code.val true
      | .notice => a.alerts
    capture := match a.capture with
      | none => some o
      | some first => some first
    further := match a.capture with
      | none => a.further
      | some _ => min 255 (a.further + 1) }

/-- A report to Fault Reporting, taken with the kind's class in this event (R173). -/
def State.report (o : Occurrence) (s : State) : State :=
  { s with faults := s.faults.take s.params.errorClass[o.kind.code.val] o }

/-- A COMMAND_ERROR carries the opcode and nothing else (R174, R181). -/
def commandErrorOf (opcode : Byte) : Occurrence :=
  { kind := .commandError, line := none, drop := none, seq := none, header := none, opcode := some opcode }

/-- Report COMMAND_ERROR with the opcode of the transaction in progress (R181, R188). -/
def State.commandError (s : State) : State := s.report (commandErrorOf (s.port.bytes.getD 0 0#8))

/-! ### The completion queue, C and the idle timer (R141, R149, R150) -/

/-- The idle timer restarted, or stopped while COALESCE_IDLE is 0 (R150). -/
def State.idleRestart (s : State) : Option Tick :=
  if s.params.coalesceIdle = 0 then none else some (s.after s.params.coalesceIdle)

/-- A record's priority is URGENT. -/
def State.isUrgent (s : State) (r : RecordIdx) : Bool := (s.record r).priority == .urgent

/-- The queue gives cause for C: COALESCE_COUNT records or more, or an URGENT one (R149). -/
def State.signalDue (s : State) : Bool :=
  decide (s.params.coalesceCount ≤ s.completionQ.length) || s.completionQ.any s.isUrgent

/-- Records that one event ends enter the queue at its tail, in the order given (R141); C is set by the
length after all of them or by an URGENT one (R149), and the idle timer is restarted once (R150). -/
def State.enterCompletion (rs : List RecordIdx) (s : State) : State :=
  match rs with
  | [] => s
  | r :: rest =>
    { s with
      completionQ := s.completionQ ++ (r :: rest)
      signalC := s.signalC || decide (s.params.coalesceCount ≤ (s.completionQ ++ (r :: rest)).length)
        || (r :: rest).any s.isUrgent
      idleTimer := s.idleRestart }

/-! ### Sequences and fences (chapter 4) -/

/-- Fence a sequence of a station for QUARANTINE_INTERVAL ticks (R73). -/
def State.fence (st : StationIdx) (q : SeqNo) (s : State) : State :=
  s.setEntry st { s.entry st with
    fence := (s.entry st).fence.set q.val (some (s.after s.params.quarantineInterval)) }

/-- A sequence is fenced at a station (R70). -/
def State.fenced (s : State) (st : StationIdx) (q : SeqNo) : Bool := ((s.entry st).fence[q.val]).isSome

/-- The record that holds a sequence of a station (R70, R76). -/
def State.holder (s : State) (st : StationIdx) (q : SeqNo) : Option RecordIdx :=
  (List.finRange 48).find? fun r =>
    (s.record r).holds && (s.record r).station == st && (s.record r).seq == some q

/-- A sequence is free at a station: neither held nor fenced (R70). -/
def State.seqFree (s : State) (st : StationIdx) (q : SeqNo) : Bool :=
  (s.holder st q).isNone && !s.fenced st q

/-- The number of records that hold a sequence for a station (R46, R50). -/
def State.heldCount (s : State) (st : StationIdx) : Nat :=
  s.records.toList.countP (fun x => x.holds && x.station == st)

/-- The effective window: the lesser of W and the line's WINDOW_LIMIT, absent while W is (R50). -/
def State.effectiveWindow (s : State) (st : StationIdx) : Option Nat :=
  (s.entry st).window.map fun w => min w s.params.windowLimit[(lineOf st).val]

/-- The station has window room (R50). -/
def State.windowRoom (s : State) (st : StationIdx) : Bool :=
  match s.effectiveWindow st with
  | none => false
  | some w => decide (s.heldCount st < w)

/-- The sequences of a station in the order an allocation examines them (R71). -/
def searchOrder (cursor : SeqNo) : List SeqNo := (List.finRange 16).map (fun i => cursor + i)

/-- The first free sequence from the cursor (R71). -/
def State.firstFree (s : State) (st : StationIdx) : Option SeqNo :=
  (searchOrder (s.entry st).cursor).find? (s.seqFree st)

/-! ### The dispatch queue (R83 to R85) -/

/-- Record `r` leaves the dispatch queue of its station's line; the others keep their order (R85). -/
def State.leaveDispatch (r : RecordIdx) (s : State) : State :=
  s.setLine (s.record r).line { s.line (s.record r).line with
    dispatchQ := (s.line (s.record r).line).dispatchQ.filter (fun h => h.index != r) }

/-- A queued handle names an URGENT record. -/
def State.urgentHandle (s : State) (h : Handle) : Bool := s.isUrgent h.index

/-- The queue with `h` at the tail of its priority class (R84). -/
def State.atClassTail (s : State) (h : Handle) (q : List Handle) : List Handle :=
  if s.isUrgent h.index then q.takeWhile s.urgentHandle ++ h :: q.dropWhile s.urgentHandle else q ++ [h]

/-- The queue with `h` at the head of its priority class (R84). -/
def State.atClassHead (s : State) (h : Handle) (q : List Handle) : List Handle :=
  if s.isUrgent h.index then h :: q else q.takeWhile s.urgentHandle ++ h :: q.dropWhile s.urgentHandle

/-- The handle of record `r`: its index with its current generation. -/
def State.handleOf (s : State) (r : RecordIdx) : Handle := { index := r, gen := (s.record r).gen }

/-- Record `r` becomes QUEUED at the tail of its class: a commit (R10, R84). -/
def State.queueAtTail (r : RecordIdx) (s : State) : State :=
  let s := s.setRecord r { s.record r with state := .queued, deadline := none }
  let n := (s.record r).line
  s.setLine n { s.line n with dispatchQ := s.atClassTail (s.handleOf r) (s.line n).dispatchQ }

/-- Record `r` becomes QUEUED at the head of its class: a retry or the end of a holdoff wait (R14, R84). -/
def State.queueAtHead (r : RecordIdx) (s : State) : State :=
  let s := s.setRecord r { s.record r with state := .queued, deadline := none }
  let n := (s.record r).line
  s.setLine n { s.line n with dispatchQ := s.atClassHead (s.handleOf r) (s.line n).dispatchQ }

/-! ### Ending records (R15, R72, R141) -/

/-- A record as its end leaves it: terminal with the outcome, no deadline, no sequence; the request fields, the
counts and any reply are kept (R6, R15). -/
def Record.ended (o : ExchOutcome) (x : Record) : Record :=
  { x with state := if o = .done then .done else .failed, outcome := some o, deadline := none, seq := none }

/-- The sequence a record gives up is fenced at its station, or left free (R72). -/
def State.giveUp (x : Record) (fences : Bool) (s : State) : State :=
  match x.seq with
  | some q => if fences then s.fence x.station q else s
  | none => s

/-- Record `r` becomes terminal with an outcome: its deadline stops, it leaves its dispatch queue, and
its sequence is emptied and, where `fences` says so, fenced (R15, R72). -/
def State.endOne (o : ExchOutcome) (fences : Bool) (r : RecordIdx) (s : State) : State :=
  ((s.leaveDispatch r).giveUp (s.record r) fences).setRecord r ((s.record r).ended o)

/-- The records of one event end and enter the completion queue in the order given (R15, R141). -/
def State.endRecords (o : ExchOutcome) (fences : Bool) (rs : List RecordIdx) (s : State) : State :=
  (rs.foldl (fun s r => s.endOne o fences r) s).enterCompletion rs

/-! ### The control queue (R86 to R88) -/

/-- The report of a control frame that finds the queue full (R87, R174). -/
def droppedOf (n : LineNo) (c : ControlFrame) : Occurrence :=
  { kind := .controlDropped, line := some n, drop := some c.drop, seq := c.seq?,
    header := some c.frame.header, opcode := none }

/-- Offer a control frame at the tail of the line's control queue: discarded without report while the
link is not UP (R88), reported as CONTROL_DROPPED when the queue holds 16 frames (R87). -/
def State.offer (n : LineNo) (c : ControlFrame) (s : State) : State :=
  if (s.line n).link = .up then
    if (s.line n).controlQ.length < Config.controlCapacity then
      s.setLine n { s.line n with controlQ := (s.line n).controlQ ++ [c] }
    else s.report (droppedOf n c)
  else s

/-! ### The arbiter (R89 to R92) -/

/-- A queued record is eligible (R89). -/
def State.eligible (s : State) (n : LineNo) (h : Handle) : Bool :=
  (s.line n).link == .up && (s.line n).service == .opened &&
    ((s.record h.index).seq.isSome ||
      (s.windowRoom (s.record h.index).station && (s.firstFree (s.record h.index).station).isSome))

/-- The transmitter of line `n` becomes SENDING with a frame (R92), at the line's present rate (R99). -/
def State.startFrame (n : LineNo) (f : Frame) (h : Option Handle) (s : State) : State :=
  s.setLine n { s.line n with
    tx := .sending f h { char := 0, elapsed := 0, bitTime := s.params.lineRate[n.val] } }

/-- Record `h.index` is dispatched under sequence `q` (R11, R92): TRANSMITTING, transmissions increased,
out of its queue, its frame on the wire and its handle with the transmitter. -/
def State.dispatchWith (n : LineNo) (h : Handle) (q : SeqNo) (s : State) : State :=
  let x := s.record h.index
  let s := s.leaveDispatch h.index
  let s := s.setRecord h.index { x with state := .transmitting, seq := some q, transmissions := x.transmissions + 1 }
  s.startFrame n (x.requestFrame q) (some (s.handleOf h.index))

/-- Dispatch of a record: the sequence it holds, or the first free one from the cursor, which moves past
it (R11, R71). -/
def State.dispatch (n : LineNo) (h : Handle) (s : State) : State :=
  match (s.record h.index).seq with
  | some q => s.dispatchWith n h q
  | none =>
    match s.firstFree (s.record h.index).station with
    | some q =>
      let st := (s.record h.index).station
      (s.setEntry st { s.entry st with cursor := q + 1 }).dispatchWith n h q
    | none => s

/-- The arbiter's choice on line `n` (R90): nothing unless the transmitter is IDLE, no line reset waits
and RESETTING is 0; then the control queue's head, else the first eligible record, else nothing. -/
def State.choose (n : LineNo) (s : State) : State :=
  if (s.line n).tx = .idle ∧ (s.line n).resetWaiting = false ∧ s.resetting = false then
    match (s.line n).controlQ with
    | c :: rest => (s.setLine n { s.line n with controlQ := rest }).startFrame n c.frame none
    | [] =>
      match (s.line n).dispatchQ.find? (s.eligible n) with
      | some h => s.dispatch n h
      | none => s
  else s

/-! ### The line service (chapter 9) -/

/-- The drain condition: no record of the line in TRANSMITTING, SENT, PARTIAL or DEFERRED (R162). -/
def State.drained (s : State) (n : LineNo) : Bool :=
  s.records.toList.all (fun x => !(x.state.inFlight && x.line == n))

/-- Every PRESENT station of the line has its quiesce-ack mark set (R165). -/
def State.allAcked (s : State) (n : LineNo) : Bool :=
  (List.finRange 8).all fun d =>
    (s.entry (stationAt n d)).state != .present || (s.entry (stationAt n d)).ackMark

/-- The line becomes QUIESCED with an outcome: the deadline stops and the marker is set (R165, R166). -/
def State.enterQuiesced (n : LineNo) (o : QuiesceOutcome) (s : State) : State :=
  s.setLine n { s.line n with
    service := .quiesced, quiesceDeadline := none, quiesceOutcome := some o, quiesceFinished := true }

/-- The completion test of a line in AWAITING_ACKS (R165). -/
def State.testAcks (n : LineNo) (s : State) : State :=
  if (s.line n).service = .awaitingAcks ∧ s.allAcked n = true then s.enterQuiesced n .allAcked else s

/-- The PRESENT drops of a line, ascending. -/
def State.presentDrops (s : State) (n : LineNo) : List DropNo :=
  (List.finRange 8).filter fun d => (s.entry (stationAt n d)).state == .present

/-- Offer control frames to a line in the order given. -/
def State.offerAll (n : LineNo) (cs : List ControlFrame) (s : State) : State :=
  cs.foldl (fun s c => s.offer n c) s

/-- Change the entries of one line. -/
def State.mapLineEntries (n : LineNo) (f : Entry → Entry) (s : State) : State :=
  s.mapEntries fun st e => if lineOf st = n then f e else e

/-- Entry into AWAITING_ACKS (R163): marks cleared, QUIESCE offered to each PRESENT station in ascending
drop order, the quiesce deadline started, and the wait tested at once (R165). -/
def State.enterAwaiting (n : LineNo) (s : State) : State :=
  let s := s.mapLineEntries n (fun e => { e with ackMark := false })
  let s := s.setLine n { s.line n with
    service := .awaitingAcks, quiesceDeadline := some (s.after s.params.quiesceDeadline) }
  (s.offerAll n ((s.presentDrops n).map .quiesce)).testAcks n

/-- The drain test of a DRAINING line (R162). -/
def State.testDrain (n : LineNo) (s : State) : State :=
  if (s.line n).service = .draining ∧ s.drained n = true then s.enterAwaiting n else s

/-- The line service's tests after an event's effects on the line's records and stations
(R162, R165, R168) [log 23]. -/
def State.serviceTests (n : LineNo) (s : State) : State := (s.testDrain n).testAcks n

/-- The end of an event on line `n`: the line service's tests, then the arbiter's choice (R91). -/
def State.settle (n : LineNo) (s : State) : State := (s.serviceTests n).choose n

/-- A QUEUED record of the line has become PARTIAL or DEFERRED: a line in AWAITING_ACKS or QUIESCED
returns to DRAINING, and the quiesce deadline stops (R167). -/
def State.returnToDraining (n : LineNo) (s : State) : State :=
  if (s.line n).service = .awaitingAcks ∨ (s.line n).service = .quiesced then
    s.setLine n { s.line n with service := .draining, quiesceDeadline := none }
  else s

/-! ### The presence sweep (R63, R64) -/

/-- The entry is ABSENT or LOST. -/
def StationState.probed : StationState → Bool
  | .disabled => false
  | .absent => true
  | .present => false
  | .lost => true

/-- The entry becomes due at the present tick (R64). -/
def Entry.dueAt (t : Tick) (e : Entry) : Entry := { e with probeTick := t, probeDue := true }

/-- The entry of drop `d` of line `n` is to be probed now: ABSENT or LOST and due, its line UP and OPEN (R63). -/
def State.probeReady (n : LineNo) (d : DropNo) (s : State) : Bool :=
  (s.entry (stationAt n d)).state.probed && (s.entry (stationAt n d)).probeDue && (s.line n).link == .up
    && (s.line n).service == .opened

/-- The entry after its PROBE has been offered: due again after PROBE_INTERVAL (R63). -/
def Entry.probedAt (t : Tick) (e : Entry) : Entry := { e with probeTick := t, probeDue := false }

/-- The PROBE of one drop, if it is to be probed now; the due tick advances by the line's PROBE_INTERVAL
whether or not the frame found room (R63). -/
def State.probeOne (n : LineNo) (s : State) (d : DropNo) : State :=
  if s.probeReady n d then
    (s.offer n (.probe d)).setEntry (stationAt n d)
      ((s.entry (stationAt n d)).probedAt (s.after s.params.probeInterval[n.val]))
  else s

/-- The due entries of a line have their PROBEs queued in ascending drop order (R63). -/
def State.probeSweep (n : LineNo) (s : State) : State := (List.finRange 8).foldl (State.probeOne n) s

/-! ### Sign of life and loss (R52 to R54) -/

/-- The station's consecutive failures become 0 (R52). -/
def State.signOfLife (st : StationIdx) (s : State) : State :=
  s.setEntry st { s.entry st with failures := 0 }

/-- The station becomes LOST (R54): its live records end with STATION_LOST and their sequences are
fenced, no ABANDON, change marker set, due for a probe; the line service is told. -/
def State.loseStation (st : StationIdx) (s : State) : State :=
  let s := s.endRecords .stationLost true (s.liveWhere (fun x => x.station == st))
  let s := s.setEntry st { (s.entry st).dueAt s.tick with state := .lost, changed := true }
  (s.probeSweep (lineOf st)).settle (lineOf st)

end Sys2Proof.Machine
end

