-- ==== Sys2Proof/Machine/Operands.lean ====
section
/-!
DEFINITION. The operand forms of the controller port: station byte, line byte, handle, POST header, and
the numbered parameters with their scopes, ranges and values.
-/

namespace Sys2Proof.Machine

/-! ### Station and line bytes (R198) -/

/-- The station a station byte names; none when bit 7 or 6 is set (R198). -/
def stationOfByte (b : Byte) : Option StationIdx := if h : b.toNat < 64 then some ⟨b.toNat, h⟩ else none

/-- The line a line byte names; none above 7 (R198). -/
def lineOfByte (b : Byte) : Option LineNo := if h : b.toNat < 8 then some ⟨b.toNat, h⟩ else none

/-! ### Handles (R18) -/

/-- What a handle parameter resolves to (R18). -/
inductive Resolved where
  | outOfRange
  | stale
  | current (r : RecordIdx)
  deriving DecidableEq, Repr

/-- Resolve a handle: out of range, stale, or current (R18). -/
def State.resolve (s : State) (index gen : Byte) : Resolved :=
  if h : index.toNat < 48 then
    if gen.toNat < 16 then
      if (s.record ⟨index.toNat, h⟩).gen.val = gen.toNat ∧ (s.record ⟨index.toNat, h⟩).state ≠ .free then
        .current ⟨index.toNat, h⟩
      else .stale
    else .outOfRange
  else .outOfRange

/-! ### The POST header (R26, R199) -/

/-- The fields of a POST header. -/
structure PostHeader where
  station : StationIdx
  priority : Priority
  opClass : Fin 16
  deadlineClass : Fin 4
  retryBudget : Nat
  length : Nat
  deriving DecidableEq, Repr

/-- The header's fields, or none when a field is out of range or a bit fixed at 0 is set (R26, R199). -/
def parsePostHeader (h1 h2 h3 h4 : Byte) : Option PostHeader :=
  match stationOfByte h1 with
  | none => none
  | some st =>
    if h2.toNat / 16 % 8 = 0 ∧ h3.toNat / 16 ≤ 3 ∧ h4.toNat ≤ Config.maxPayload then
      if hc : h3.toNat % 16 < 4 then
        some { station := st
               priority := if h2.getLsbD 7 then .urgent else .normal
               opClass := ⟨h2.toNat % 16, by omega⟩
               deadlineClass := ⟨h3.toNat % 16, hc⟩
               retryBudget := h3.toNat / 16
               length := h4.toNat }
      else none
    else none

/-! ### Parameters (R192, R204) -/

/-- The parameters of R204. -/
inductive Param where
  | tickDivider | lineEnable | lineRate | windowLimit | probeInterval
  | deadlineClass (k : Fin 4)
  | segmentInterval | holdoffMinimum | holdoffLimit | quarantineInterval | lossThreshold | urgentReserve
  | coalesceCount | coalesceIdle | quiesceDeadline | noteEnable | errorClass | faultEnable
  deriving DecidableEq, Repr

/-- The parameter a number names; none for 0 and above 21 (R204). -/
def Param.ofNumber : Nat → Option Param
  | 1 => some .tickDivider
  | 2 => some .lineEnable
  | 3 => some .lineRate
  | 4 => some .windowLimit
  | 5 => some .probeInterval
  | 6 => some (.deadlineClass 0)
  | 7 => some (.deadlineClass 1)
  | 8 => some (.deadlineClass 2)
  | 9 => some (.deadlineClass 3)
  | 10 => some .segmentInterval
  | 11 => some .holdoffMinimum
  | 12 => some .holdoffLimit
  | 13 => some .quarantineInterval
  | 14 => some .lossThreshold
  | 15 => some .urgentReserve
  | 16 => some .coalesceCount
  | 17 => some .coalesceIdle
  | 18 => some .quiesceDeadline
  | 19 => some .noteEnable
  | 20 => some .errorClass
  | 21 => some .faultEnable
  | _ => none

/-- How many index values a parameter has: 8 per line, 11 per kind, 1 for the device (R192). -/
def Param.indexCount : Param → Nat
  | .tickDivider => 1
  | .lineEnable => 8
  | .lineRate => 8
  | .windowLimit => 8
  | .probeInterval => 8
  | .deadlineClass _ => 1
  | .segmentInterval => 1
  | .holdoffMinimum => 1
  | .holdoffLimit => 1
  | .quarantineInterval => 1
  | .lossThreshold => 1
  | .urgentReserve => 1
  | .coalesceCount => 1
  | .coalesceIdle => 1
  | .quiesceDeadline => 1
  | .noteEnable => 1
  | .errorClass => 11
  | .faultEnable => 11

/-- The least value of a parameter's range (R204). -/
def Param.least : Param → Nat
  | .tickDivider => 1
  | .lineEnable => 0
  | .lineRate => 16
  | .windowLimit => 1
  | .probeInterval => 10
  | .deadlineClass _ => 1
  | .segmentInterval => 1
  | .holdoffMinimum => 1
  | .holdoffLimit => 1
  | .quarantineInterval => 1
  | .lossThreshold => 1
  | .urgentReserve => 0
  | .coalesceCount => 1
  | .coalesceIdle => 0
  | .quiesceDeadline => 1
  | .noteEnable => 0
  | .errorClass => 0
  | .faultEnable => 0

/-- The greatest value of a parameter's range (R204). -/
def Param.greatest : Param → Nat
  | .tickDivider => 65535
  | .lineEnable => 1
  | .lineRate => 65535
  | .windowLimit => 4
  | .probeInterval => 65535
  | .deadlineClass _ => 65535
  | .segmentInterval => 4095
  | .holdoffMinimum => 65535
  | .holdoffLimit => 15
  | .quarantineInterval => 65535
  | .lossThreshold => 7
  | .urgentReserve => 16
  | .coalesceCount => 16
  | .coalesceIdle => 4095
  | .quiesceDeadline => 65535
  | .noteEnable => 15
  | .errorClass => 1
  | .faultEnable => 1

/-- LINE_RATE and WINDOW_LIMIT of a line may be written only while it is OFF (R192, check 4). -/
def State.writableNow (s : State) (p : Param) (i : Nat) : Bool :=
  match p with
  | .lineRate => if h : i < 8 then (s.line ⟨i, h⟩).link == .off else false
  | .windowLimit => if h : i < 8 then (s.line ⟨i, h⟩).link == .off else false
  | _ => true

/-- The parameter a SET PARAMETER writes, when all checks of R192 pass. -/
def State.checkedParam (s : State) (number index value : Nat) : Option Param :=
  match Param.ofNumber number with
  | none => none
  | some p =>
    if index < p.indexCount ∧ p.least ≤ value ∧ value ≤ p.greatest ∧ s.writableNow p index = true then some p
    else none

/-- A value as a class: 0 NOTICE, 1 ALERT (R204). -/
def classOfValue (v : Nat) : ErrorClass := if v = 0 then .notice else .alert

/-- Replace one place of a vector, if the index names one. -/
def setAt {α : Type} {k : Nat} (xs : Vector α k) (i : Nat) (x : α) : Vector α k :=
  if h : i < k then xs.set i x h else xs

/-- The parameter takes the value (R192). -/
def Params.write (ps : Params) (p : Param) (i v : Nat) : Params :=
  match p with
  | .tickDivider => { ps with tickDivider := v }
  | .lineEnable => { ps with lineEnable := setAt ps.lineEnable i (v != 0) }
  | .lineRate => { ps with lineRate := setAt ps.lineRate i v }
  | .windowLimit => { ps with windowLimit := setAt ps.windowLimit i v }
  | .probeInterval => { ps with probeInterval := setAt ps.probeInterval i v }
  | .deadlineClass k => { ps with deadlineClass := ps.deadlineClass.set k.val v }
  | .segmentInterval => { ps with segmentInterval := v }
  | .holdoffMinimum => { ps with holdoffMinimum := v }
  | .holdoffLimit => { ps with holdoffLimit := v }
  | .quarantineInterval => { ps with quarantineInterval := v }
  | .lossThreshold => { ps with lossThreshold := v }
  | .urgentReserve => { ps with urgentReserve := v }
  | .coalesceCount => { ps with coalesceCount := v }
  | .coalesceIdle => { ps with coalesceIdle := v }
  | .quiesceDeadline => { ps with quiesceDeadline := v }
  | .noteEnable => { ps with noteEnable := BitVec.ofNat 4 v }
  | .errorClass => { ps with errorClass := setAt ps.errorClass i (classOfValue v) }
  | .faultEnable => { ps with faultEnable := setAt ps.faultEnable i (v != 0) }

/-- The present value of a parameter (R193). -/
def Params.read (ps : Params) (p : Param) (i : Nat) : Nat :=
  match p with
  | .tickDivider => ps.tickDivider
  | .lineEnable => bitValue (ps.lineEnable.toList.getD i false) 1
  | .lineRate => ps.lineRate.toList.getD i 0
  | .windowLimit => ps.windowLimit.toList.getD i 0
  | .probeInterval => ps.probeInterval.toList.getD i 0
  | .deadlineClass k => ps.deadlineClass[k.val]
  | .segmentInterval => ps.segmentInterval
  | .holdoffMinimum => ps.holdoffMinimum
  | .holdoffLimit => ps.holdoffLimit
  | .quarantineInterval => ps.quarantineInterval
  | .lossThreshold => ps.lossThreshold
  | .urgentReserve => ps.urgentReserve
  | .coalesceCount => ps.coalesceCount
  | .coalesceIdle => ps.coalesceIdle
  | .quiesceDeadline => ps.quiesceDeadline
  | .noteEnable => ps.noteEnable.toNat
  | .errorClass => match ps.errorClass.toList.getD i .notice with
    | .notice => 0
    | .alert => 1
  | .faultEnable => bitValue (ps.faultEnable.toList.getD i false) 1

end Sys2Proof.Machine
end

