-- ==== Sys2Proof/Machine/Flags.lean ====
section
/-!
DEFINITION. The flags and pins that are views of the state: the status byte's flags, NOTEn, FAULTn,
SDO, TXD and DENn.
-/

namespace Sys2Proof.Machine

/-- FREE_LOW: the free count is URGENT_RESERVE or less (R21). -/
def State.freeLow (s : State) : Bool := decide (s.freeCount ≤ s.params.urgentReserve)

/-- ANY_LINE_DOWN: the link condition of at least one line is DOWN (R110). -/
def State.anyLineDown (s : State) : Bool := s.lines.toList.any (fun l => l.link == .down)

/-- Source A: some station's presented slot is occupied (R155). -/
def State.sourceA (s : State) : Bool := s.stations.toList.any (fun e => e.presented.isSome)

/-- Source Q: some line's quiesce-finished marker is set (R160). -/
def State.sourceQ (s : State) : Bool := s.lines.toList.any (fun l => l.quiesceFinished)

/-- Source S: some station's change marker is set (R65). -/
def State.sourceS (s : State) : Bool := s.stations.toList.any (fun e => e.changed)

/-- F: the alert set is not empty (R177). -/
def State.flagF (s : State) : Bool := s.faults.alerts.toList.any id

/-- The status byte: C, A, Q, S, F, RESETTING, FREE_LOW, ANY_LINE_DOWN from bit 7 to bit 0 (R184, R200). -/
def State.statusByte (s : State) : Byte :=
  byteOf (flagsValue
    [s.anyLineDown, s.freeLow, s.resetting, s.flagF, s.sourceS, s.sourceQ, s.sourceA, s.signalC])

/-- NOTEn is asserted while at least one enabled source is true (R153); the enables are bit 3 C, bit 2 A,
bit 1 Q, bit 0 S (R204). -/
def State.noteAsserted (s : State) : Bool :=
  (s.params.noteEnable.getLsbD 3 && s.signalC) || (s.params.noteEnable.getLsbD 2 && s.sourceA)
    || (s.params.noteEnable.getLsbD 1 && s.sourceQ) || (s.params.noteEnable.getLsbD 0 && s.sourceS)

/-- FAULTn is asserted while the alert set contains a kind whose FAULT enable is on (R177). -/
def State.faultAsserted (s : State) : Bool :=
  (List.finRange 11).any fun k => s.faults.alerts[k.val] && s.params.faultEnable[k.val]

/-- The instruction named by the opcode byte in the port. -/
def Port.op (p : Port) : Option Opcode :=
  match p.bytes with
  | [] => none
  | b :: _ => Opcode.ofByte b

/-- The parameter bytes that have arrived. -/
def Port.params (p : Port) : List Byte := p.bytes.drop 1

/-- The transaction is ignored: its status byte showed RESETTING at 1, and it is not a READ STATUS (R194). -/
def Port.ignored (p : Port) : Bool := p.status.getLsbD 2 && p.op != some .readStatus

/-- The change markers of a line, bit d for drop d (R66). -/
def State.changeByte (s : State) (n : LineNo) : Byte :=
  byteOf (flagsValue ((List.finRange 8).map fun d => (s.entry (stationAt n d)).changed))

/-- The response byte in progress: the next of the response that was fixed, 0xFF after the last (R185). A byte of READ
STATION CHANGES that has not begun shows the markers of its line, since it is their snapshot as it begins (R66)
[log 16]. -/
def State.responseByte (o : Opcode) (s : State) : Byte :=
  if h : s.port.response.length < 8 then
    if o = .readStationChanges ∧ s.port.response.length ≤ s.port.clocked then
      s.changeByte ⟨s.port.response.length, h⟩
    else s.port.response.getD s.port.clocked absentByte
  else s.port.response.getD s.port.clocked absentByte

/-- What SDO carries during the byte in progress: none (high impedance) while no transaction is open;
the status byte during the opcode byte; 0xFF during the parameter bytes; then the response bytes, and
0xFF after the last (R183 to R185). -/
def State.sdo (s : State) : Option Byte :=
  if s.operating = true ∧ s.port.phase = .opened then
    if s.port.count = 0 then some s.port.status
    else if s.port.ignored then some absentByte
    else match s.port.op with
      | none => some absentByte
      | some o =>
        if s.port.count < 1 + o.paramCount then some absentByte
        else some (s.responseByte o)
  else none

/-- The level of a character's waveform in one of its ten bit times: start bit at space, eight data bits
with the least significant bit first, stop bit at mark (R99). -/
def charLevel (b : Byte) (bit : Nat) : Bool :=
  if bit = 0 then false else if bit ≤ 8 then b.getLsbD (bit - 1) else true

/-- The level of TXD: the character in progress, or mark (R103, R205). -/
def State.txd (s : State) (n : LineNo) : Bool :=
  match (s.line n).tx with
  | .idle => true
  | .sending f _ p => charLevel (f.wire.getD p.char 0#8) (p.elapsed / p.bitTime)
  | .stopping f p => charLevel (f.wire.getD p.char 0#8) (p.elapsed / p.bitTime)

/-- DENn is driven low while the transmitter is SENDING or STOPPING (R103, R205). -/
def State.denAsserted (s : State) (n : LineNo) : Bool := (s.line n).tx != .idle

end Sys2Proof.Machine
end

