-- ==== Sys2Proof/Machine/Responses.lean ====
section
/-!
DEFINITION. The responses of the reading instructions, byte by byte (R145, R148, R158, R201).
-/

namespace Sys2Proof.Machine

/-- A field that reads 0 when it is absent or empty (R201). -/
def optByte (b : Option Byte) : Byte := b.getD 0#8

/-- The line byte: link condition in bits 7..4, service state in bits 3..0 (R201). -/
def Line.statusByte (l : Line) : Byte := byteOf (l.link.code * 16 + l.service.code)

/-- READ STATUS: free count, completion count, eight line bytes (R190, R201). -/
def State.statusResponse (s : State) : List Byte :=
  byteOf s.freeCount :: byteOf s.completionQ.length :: s.lines.toList.map Line.statusByte

/-- The summary: index, generation, outcome code or the given byte while there is none, and the station
status, 0x00 when absent (R145, R201). -/
def summaryBytes (r : RecordIdx) (x : Record) : List Byte :=
  [byteOf r.val, byteOf x.gen.val,
    match x.outcome with
    | some o => o.code
    | none => absentByte,
    optByte x.status]

/-- The counts: transmissions, retries used, holdoffs, reply length (R145, R201). -/
def countBytes (x : Record) : List Byte :=
  [byteOf x.transmissions, byteOf x.retriesUsed, byteOf x.holdoffs, byteOf x.reply.length]

/-- The response of a collection with result OK (R145). -/
def State.collectResponse (s : State) (r : RecordIdx) : List Byte :=
  ResultCode.ok.byte :: (summaryBytes r (s.record r) ++ countBytes (s.record r) ++ (s.record r).reply)

/-- Ticks remaining until an expiry tick, 0 once it has passed [log 11] (R148). -/
def State.remaining (s : State) (e : Tick) : Nat := if s.passed e then 0 else (e - s.tick).toNat

/-- Priority and op class as POST header byte 2 (R199, R201). -/
def priorityByte (x : Record) : Byte :=
  byteOf (bitValue (x.priority == .urgent) 128 + x.opClass.val)

/-- Retry budget and deadline class as POST header byte 3 (R199, R201). -/
def budgetByte (x : Record) : Byte := byteOf (x.retryBudget * 16 + x.deadlineClass.val)

/-- The response of READ RECORD with result OK (R148, R201). -/
def State.recordResponse (s : State) (r : RecordIdx) : List Byte :=
  let x := s.record r
  ResultCode.ok.byte :: x.state.code :: (summaryBytes r x ++ countBytes x ++
    [byteOf x.station.val, priorityByte x, budgetByte x, byteOf x.payload.length,
      match x.seq with
      | some q => byteOf q.val
      | none => absentByte,
      match x.deadline with
      | some d => d.kind.code
      | none => absentByte,
      match x.deadline with
      | some d => highByte (s.remaining d.expiry)
      | none => 0#8,
      match x.deadline with
      | some d => lowByte (s.remaining d.expiry)
      | none => 0#8,
      byteOf x.segments] ++ x.reply)

/-- The number of live records naming a station (R46). -/
def State.openCount (s : State) (st : StationIdx) : Nat :=
  s.records.toList.countP (fun x => x.state.live && x.station == st)

/-- The number of a station's sequences that carry a fence (R46). -/
def Entry.fencedCount (e : Entry) : Nat := e.fence.toList.countP Option.isSome

/-- The thirteen bytes of READ STATION (R46, R201). -/
def State.stationResponse (s : State) (st : StationIdx) : List Byte :=
  let e := s.entry st
  [ byteOf (e.state.code + bitValue e.pendingCause.isSome 4 + bitValue e.presented.isSome 8
      + bitValue e.ackMark 16 + bitValue e.changed 32 + bitValue e.replaced 64 + bitValue e.identity.isSome 128),
    match e.identity with
    | some i => highByte i.classCode.toNat
    | none => 0#8,
    match e.identity with
    | some i => lowByte i.classCode.toNat
    | none => 0#8,
    match e.identity with
    | some i => i.revision
    | none => 0#8,
    byteOf (e.window.getD 0),
    byteOf ((s.effectiveWindow st).getD 0),
    byteOf e.failures,
    byteOf e.cursor.val,
    byteOf (s.heldCount st),
    byteOf (s.openCount st),
    byteOf e.fencedCount,
    optByte e.presented,
    optByte e.pendingCause ]

/-- The ack set of a line, bit d for drop d (R170, R201). -/
def State.ackByte (s : State) (n : LineNo) : Byte :=
  byteOf (flagsValue ((List.finRange 8).map fun d => (s.entry (stationAt n d)).ackMark))

/-- The number of the line's records in QUEUED (R170). -/
def State.queuedCount (s : State) (n : LineNo) : Nat :=
  s.records.toList.countP (fun x => x.state == .queued && x.line == n)

/-- The number of the line's live records (R170). -/
def State.liveCount (s : State) (n : LineNo) : Nat :=
  s.records.toList.countP (fun x => x.state.live && x.line == n)

/-- The five bytes of READ LINE (R170, R201). -/
def State.lineResponse (s : State) (n : LineNo) : List Byte :=
  [ (s.line n).statusByte,
    byteOf (bitValue (s.line n).quiesceFinished 128 + quiesceOutcomeCode (s.line n).quiesceOutcome),
    s.ackByte n, byteOf (s.queuedCount n), byteOf (s.liveCount n) ]

/-- The bytes 14 to 23 of READ ERRORS: the capture (R178, R201). Bits 1 and 0 of the first are 0 [log 29]. -/
def captureBytes : Option Occurrence → List Byte
  | none => List.replicate 10 0#8
  | some o =>
    [ byteOf (bitValue o.opcode.isSome 4 + bitValue o.header.isSome 8 + bitValue o.seq.isSome 16
        + bitValue o.drop.isSome 32 + bitValue o.line.isSome 64 + 128),
      byteOf o.kind.code.val,
      match o.line with
      | some n => byteOf n.val
      | none => 0#8,
      match o.drop with
      | some d => byteOf d.val
      | none => 0#8,
      match o.seq with
      | some q => byteOf q.val
      | none => 0#8,
      (o.header.getD []).getD 0 0#8, (o.header.getD []).getD 1 0#8,
      (o.header.getD []).getD 2 0#8, (o.header.getD []).getD 3 0#8,
      optByte o.opcode ]

/-- The twenty-five bytes of READ ERRORS (R178, R201). -/
def State.errorsResponse (s : State) : List Byte :=
  s.faults.counters.toList.map byteOf
    ++ [highByte (flagsValue s.faults.alerts.toList), lowByte (flagsValue s.faults.alerts.toList)]
    ++ captureBytes s.faults.capture ++ [byteOf s.faults.further, absentByte]

/-- The value bytes of READ PARAMETER, high byte first (R193). -/
def State.parameterResponse (s : State) (p : Param) (i : Nat) : List Byte :=
  [highByte (s.params.read p i), lowByte (s.params.read p i)]

end Sys2Proof.Machine
end

