-- ==== Sys2Proof/Machine/Transactions.lean ====
section
/-!
DEFINITION. The frame of every transaction on the controller port: how the bytes of an instruction
arrive, how its decision is taken, and how the rise of CSn ends it (R183 to R188, R194).
-/

namespace Sys2Proof.Machine

/-- A transaction is open and the device operates (R183, R197). -/
def State.portOpen (s : State) : Bool := s.operating && s.port.phase == .opened

/-- Fix a response: the snapshot or decision has been taken (R183, R185). -/
def State.respond (bs : List Byte) (s : State) : State :=
  { s with port := { s.port with taken := true, response := bs } }

/-- The port after exactly these bytes have arrived. -/
def Port.having (p : Port) (bs : List Byte) : Port := { p with bytes := bs, count := bs.length }

/-- The port after at least these bytes have arrived: excess bytes count but are not stored (R186). -/
def Port.havingAtLeast (p : Port) (bs : List Byte) : Port :=
  { p with bytes := bs, count := max p.count bs.length }

/-- Some, but not all, of an instruction's bytes have arrived, and none that is not its own. -/
def State.awaits (s : State) (bs : List Byte) : Bool :=
  s.portOpen && decide (s.port.count < bs.length) && s.port.bytes == bs.take s.port.count

/-- All of an instruction's bytes, or the first few of them, have arrived, and none that is not its own
but excess ones. -/
def State.carries (s : State) (bs : List Byte) : Bool :=
  s.portOpen && s.port.bytes == bs.take s.port.count

/-- The bytes of an instruction that have not yet arrived arrive, and the last completes its decision,
`take`, unless the transaction is ignored (R185, R194) [log 5]. -/
def State.arriveThrough (o : Opcode) (params : List Byte) (take : State → State) (s : State) : State :=
  if s.awaits (o.code :: params) then
    let s := { s with port := s.port.having (o.code :: params) }
    if s.port.ignored then s else take s
  else s

/-- The rise of CSn discards the port's transaction state (R183). -/
def State.closePort (s : State) : State :=
  { s with port := Port.idle, pins := { s.pins with csnHigh := true } }

/-- The bytes of an instruction that have not yet arrived arrive, and CSn rises with its effect, unless
the transaction is ignored (R185, R194) [log 5]. -/
def State.riseThrough (bs : List Byte) (effect : State → State) (s : State) : State :=
  if s.carries bs then
    let s := { s with port := s.port.havingAtLeast bs }
    (if s.port.ignored then s else effect s).closePort
  else s

/-- CSn rises on a transaction, not ignored, that meets a condition of its own. -/
def State.riseWhen (cond : Bool) (effect : State → State) (s : State) : State :=
  if s.portOpen && !s.port.ignored && cond then (effect s).closePort else s

/-- The first parameter byte. -/
def Port.param (p : Port) (i : Nat) : Byte := p.params.getD i 0#8

end Sys2Proof.Machine
end

