-- ==== Sys2Proof/Machine/Exchanges.lean ====
section
/-!
DEFINITION. Admitting, withdrawing, reading and collecting exchanges (chapters 2 and 8), and the
completion signal's re-evaluations.
-/

namespace Sys2Proof.Machine

/-! ### Admission (R26 to R30) -/

/-- The refusal of a POST with a good header, by checks 2 to 5 of R27 in their order. -/
def State.admissionRefusal (s : State) (h : PostHeader) : Option AdmissionCode :=
  if (s.line (lineOf h.station)).link ≠ .up then some .lineNotUp
  else if (s.line (lineOf h.station)).service ≠ .opened then some .lineQuiesced
  else match (s.entry h.station).state with
    | .absent => some .stationAbsent
    | .lost => some .stationLost
    | .disabled => some .stationDisabled
    | .present =>
      match h.priority with
      | .normal => if s.freeCount ≤ s.params.urgentReserve then some .tableFull else none
      | .urgent => if s.freeCount = 0 then some .tableFull else none

/-- The turnaround bytes of a refusal (R199). -/
def refusalBytes (c : AdmissionCode) : List Byte := [byteOf c.value, absentByte]

/-- The record as it is reserved: header fields, counts 0, empty reply, generation unchanged (R9). -/
def reservedRecord (g : Gen) (h : PostHeader) : Record :=
  { Record.blank g with
    state := .reserved, station := h.station, opClass := h.opClass, priority := h.priority,
    deadlineClass := h.deadlineClass, retryBudget := h.retryBudget }

/-- The reservation of record `r`, with the turnaround bytes that carry its handle (R9, R29, R199). -/
def State.reserve (h : PostHeader) (r : RecordIdx) (s : State) : State :=
  let s := s.setRecord r (reservedRecord (s.record r).gen h)
  let s := s.respond [byteOf ((s.record r).gen.val * 16 + AdmissionCode.accepted.value), byteOf r.val]
  { s with port := { s.port with reserved := some r } }

/-- The admission decision at the fourth header byte (R27, R29, R30). -/
def takePostAdmission (h1 h2 h3 h4 : Byte) (s : State) : State :=
  match parsePostHeader h1 h2 h3 h4 with
  | none => (s.respond (refusalBytes .badRequest)).commandError
  | some h =>
    match s.admissionRefusal h with
    | some c => s.respond (refusalBytes c)
    | none =>
      match s.lowestFree with
      | some r => s.reserve h r
      | none => s.respond (refusalBytes .tableFull)

/-- POST_ADMISSION (R27). -/
def execPostAdmission (h1 h2 h3 h4 : Byte) (s : State) : Host.Outcome State Fault Refusal :=
  .next (s.arriveThrough .post [h1, h2, h3, h4] (takePostAdmission h1 h2 h3 h4))

/-! ### Commit and truncation (R10, R31, R32) -/

/-- The required bytes of a POST: 1 + 4 + 2 + L (R25). -/
def Port.postRequired (p : Port) : Nat := 7 + (p.param 3).toNat

/-- A reserved record commits: the link is read before the station (R10, R31). -/
def State.commitRecord (r : RecordIdx) (s : State) : State :=
  if (s.line (s.record r).line).link ≠ .up then s.endRecords .lineDown false [r]
  else if (s.entry (s.record r).station).state ≠ .present then s.endRecords .stationLost false [r]
  else (s.queueAtTail r).choose (s.record r).line

/-- A record becomes FREE: its other fields are discarded and its generation advances (R1, R18). -/
def State.freeRecord (r : RecordIdx) (s : State) : State :=
  s.setRecord r (Record.blank ((s.record r).gen + 1))

/-- The settling of a reserved record at the rise of CSn (R10, R31, R32). -/
def takePostCommit (s : State) : State :=
  match s.port.reserved with
  | none => s
  | some r => if s.port.postRequired ≤ s.port.count then s.commitRecord r else (s.freeRecord r).commandError

/-- POST_COMMIT (R10). -/
def execPostCommit (s : State) : Host.Outcome State Fault Refusal :=
  .next (s.riseWhen (s.port.op == some .post && s.port.reserved.isSome) takePostCommit)

/-! ### CANCEL (R36 to R42) -/

/-- The cancel of a live record: FAILED with CANCELLED, its sequence fenced, and an ABANDON for it at the
tail of the line's control queue (R38 to R42). -/
def State.cancelRecord (r : RecordIdx) (s : State) : State :=
  let x := s.record r
  let s := s.endRecords .cancelled true [r]
  let s := match x.seq with
    | some q => s.offer x.line (.abandon (dropOf x.station) q)
    | none => s
  s.settle x.line

/-- CANCEL taken at its last handle byte (R36, R37). A RESERVED record cannot be named [log 19]. -/
def takeCancel (index gen : Byte) (s : State) : State :=
  match s.resolve index gen with
  | .outOfRange => s.commandError
  | .stale => s.respond [ResultCode.staleHandle.byte]
  | .current r =>
    if (s.record r).state.terminal then s.respond [ResultCode.alreadyComplete.byte]
    else if (s.record r).state.live then (s.cancelRecord r).respond [ResultCode.cancelled.byte]
    else s

/-- CANCEL (R36). -/
def execCancel (index gen : Byte) (s : State) : Host.Outcome State Fault Refusal :=
  .next (s.arriveThrough .cancel [index, gen] (takeCancel index gen))

/-! ### Collection (R143 to R146, R151) -/

/-- Name a terminal record and fix its response (R143, R144). -/
def State.nameRecord (r : RecordIdx) (s : State) : State :=
  let s := s.respond (s.collectResponse r)
  { s with port := { s.port with named := some r } }

/-- The snapshot of COLLECT (R144). -/
def takeCollect (index gen : Byte) (s : State) : State :=
  match s.resolve index gen with
  | .outOfRange => s.commandError
  | .stale => s.respond [ResultCode.staleHandle.byte]
  | .current r =>
    if (s.record r).state.terminal then s.nameRecord r else s.respond [ResultCode.notComplete.byte]

/-- COLLECT (R144). -/
def execCollect (index gen : Byte) (s : State) : Host.Outcome State Fault Refusal :=
  .next (s.arriveThrough .collect [index, gen] (takeCollect index gen))

/-- The snapshot of COLLECT NEXT (R143). -/
def takeCollectNext (s : State) : State :=
  match s.completionQ with
  | [] => s.respond [ResultCode.empty.byte]
  | r :: _ => s.nameRecord r

/-- COLLECT_NEXT (R143). -/
def execCollectNext (s : State) : Host.Outcome State Fault Refusal :=
  .next (s.arriveThrough .collectNext [] takeCollectNext)

/-- C and the idle timer after a collection (R151). While the queue still gives cause for C a running timer goes on, also
when it meets its expiry, which the table of R152 says does not happen [log 33]. -/
def State.afterCollection (s : State) : State :=
  if s.completionQ = [] then { s with signalC := false, idleTimer := none }
  else if s.signalDue then s
  else { s with signalC := false, idleTimer := s.idleRestart }

/-- The named record is collected: out of the queue, FREE, and C re-evaluated (R17, R146, R151). -/
def State.collectRecord (r : RecordIdx) (s : State) : State :=
  let s := s.freeRecord r
  ({ s with completionQ := s.completionQ.filter (fun q => q != r) }).afterCollection

/-- The transaction is a collection that named a record, and its result code and four summary bytes have been
clocked out in full (R146). -/
def Port.summaryClocked (p : Port) : Bool :=
  (p.op == some .collect || p.op == some .collectNext) && p.named.isSome && decide (5 ≤ p.clocked)

/-- The freeing at the rise of CSn of a collection (R146). -/
def takeCollection (s : State) : State :=
  match s.port.named with
  | none => s
  | some r => if 5 ≤ s.port.clocked then s.collectRecord r else s

/-- COLLECTION (R146). -/
def execCollection (s : State) : Host.Outcome State Fault Refusal :=
  .next (s.riseWhen s.port.summaryClocked takeCollection)

/-- C and the idle timer after a write of COALESCE_COUNT (R152). -/
def State.afterCoalesceWrite (s : State) : State :=
  if s.signalDue then { s with signalC := true }
  else if s.completionQ = [] then { s with signalC := false, idleTimer := none }
  else { s with signalC := false, idleTimer := s.idleRestart }

/-! ### READ RECORD (R148) -/

/-- The snapshot of READ RECORD (R148). -/
def takeReadRecord (index gen : Byte) (s : State) : State :=
  match s.resolve index gen with
  | .outOfRange => s.commandError
  | .stale => s.respond [ResultCode.staleHandle.byte]
  | .current r => s.respond (s.recordResponse r)

/-- READ_RECORD (R148). -/
def execReadRecord (index gen : Byte) (s : State) : Host.Outcome State Fault Refusal :=
  .next (s.arriveThrough .readRecord [index, gen] (takeReadRecord index gen))

end Sys2Proof.Machine
end

