-- ==== Sys2Proof/Machine/Directory.lean ====
section
/-!
DEFINITION. The instructions on station entries (chapters 3 and 9): READ STATION, READ STATION CHANGES,
ENABLE and DISABLE STATION, ACK ATTENTION.
-/

namespace Sys2Proof.Machine

/-! ### READ STATION (R191) -/

/-- The snapshot of READ STATION (R46, R191). -/
def takeReadStation (b : Byte) (s : State) : State :=
  match stationOfByte b with
  | none => s.commandError
  | some st => s.respond (s.stationResponse st)

/-- READ_STATION (R191). -/
def execReadStation (b : Byte) (s : State) : Host.Outcome State Fault Refusal :=
  .next (s.arriveThrough .readStation [b] (takeReadStation b))

/-! ### READ STATION CHANGES (R66) -/

/-- The next response byte begins: a snapshot of its line's markers, while fewer than eight have begun
and every one begun has been clocked out (R66) [log 16]. -/
def State.beginChangeByte (s : State) : State :=
  if h : s.port.response.length < 8 then
    if s.port.response.length ≤ s.port.clocked then
      s.respond (s.port.response ++ [s.changeByte ⟨s.port.response.length, h⟩])
    else s
  else s

/-- READ_STATION_CHANGES (R66): the opcode byte, if it has not arrived, and the beginning of the next
response byte. -/
def execReadStationChanges (s : State) : Host.Outcome State Fault Refusal :=
  .next
    (if s.carries [Opcode.readStationChanges.code] then
      let s := { s with port := s.port.havingAtLeast [Opcode.readStationChanges.code] }
      if s.port.ignored then s else s.beginChangeByte
    else s)

/-- The markers that a response byte reported as set are cleared (R66). -/
def clearReported (b : Byte) (d : DropNo) (e : Entry) : Entry :=
  if b.getLsbD d.val then { e with changed := false } else e

/-- At CSn rise, the markers reported as set in fully clocked bytes are cleared (R66). -/
def takeStationChangesClear (s : State) : State :=
  s.mapEntries fun st e =>
    if (lineOf st).val < s.port.clocked ∧ (lineOf st).val < s.port.response.length then
      clearReported (s.port.response.getD (lineOf st).val 0#8) (dropOf st) e
    else e

/-- STATION_CHANGES_CLEAR (R66). -/
def execStationChangesClear (s : State) : Host.Outcome State Fault Refusal :=
  .next (s.riseWhen (s.port.op == some .readStationChanges) takeStationChangesClear)

/-! ### ENABLE and DISABLE STATION (R59 to R61) -/

/-- The entry of an enabled station: ABSENT, identity, window and replaced flag cleared (R61). -/
def Entry.enabled (e : Entry) : Entry :=
  { e with state := .absent, identity := none, window := none, replaced := false, failures := 0 }

/-- ENABLE STATION of a DISABLED entry: ABSENT and due for a probe (R61, R63). -/
def State.enableStation (st : StationIdx) (s : State) : State :=
  let s := s.setEntry st ((s.entry st).enabled.dueAt s.tick)
  (s.probeSweep (lineOf st)).choose (lineOf st)

/-- ENABLE STATION at its station byte (R59). -/
def takeEnableStation (b : Byte) (s : State) : State :=
  match stationOfByte b with
  | none => s.commandError
  | some st =>
    match (s.entry st).state with
    | .disabled => (s.enableStation st).respond [ResultCode.ok.byte]
    | .absent => s.respond [ResultCode.notDisabled.byte]
    | .present => s.respond [ResultCode.notDisabled.byte]
    | .lost => s.respond [ResultCode.notDisabled.byte]

/-- ENABLE_STATION (R61). -/
def execEnableStation (b : Byte) (s : State) : Host.Outcome State Fault Refusal :=
  .next (s.arriveThrough .enableStation [b] (takeEnableStation b))

/-- The entry of a disabled station: attention slots emptied, failures 0, no probe due (R60). -/
def Entry.disabledOf (e : Entry) : Entry :=
  { e with state := .disabled, presented := none, pendingCause := none, failures := 0, probeDue := false }

/-- The ABANDON frames a disablement offers: one per swept record that was TRANSMITTING, SENT, PARTIAL or
DEFERRED, in ascending index (R60); a record that was QUEUED gets none. R60 says so, and by R15 the chapter of the
sweep's cause decides whether an ABANDON follows, against the shorter words of R86's table [log 9]. -/
def State.disableAbandons (s : State) (rs : List RecordIdx) : List ControlFrame :=
  rs.filterMap fun r =>
    if (s.record r).state.inFlight then
      (s.record r).seq.map (fun q => ControlFrame.abandon (dropOf (s.record r).station) q)
    else none

/-- DISABLE STATION of an entry that is not DISABLED (R60). -/
def State.disableStation (st : StationIdx) (s : State) : State :=
  let rs := s.liveWhere (fun x => x.station == st)
  let cs := s.disableAbandons rs
  let s := s.endRecords .stationDisabled true rs
  let s := s.setEntry st (s.entry st).disabledOf
  (s.offerAll (lineOf st) cs).settle (lineOf st)

/-- DISABLE STATION at its station byte (R59). -/
def takeDisableStation (b : Byte) (s : State) : State :=
  match stationOfByte b with
  | none => s.commandError
  | some st =>
    match (s.entry st).state with
    | .disabled => s.respond [ResultCode.alreadyDisabled.byte]
    | .absent => (s.disableStation st).respond [ResultCode.ok.byte]
    | .present => (s.disableStation st).respond [ResultCode.ok.byte]
    | .lost => (s.disableStation st).respond [ResultCode.ok.byte]

/-- DISABLE_STATION (R60). -/
def execDisableStation (b : Byte) (s : State) : Host.Outcome State Fault Refusal :=
  .next (s.arriveThrough .disableStation [b] (takeDisableStation b))

/-! ### ACK ATTENTION (R158) -/

/-- The snapshot of ACK ATTENTION (R158). -/
def takeAckAttention (b : Byte) (s : State) : State :=
  match stationOfByte b with
  | none => s.commandError
  | some st =>
    match (s.entry st).presented with
    | some c => s.respond [ResultCode.ok.byte, c]
    | none => s.respond [ResultCode.noCause.byte, absentByte]

/-- ACK_ATTENTION (R158). -/
def execAckAttention (b : Byte) (s : State) : Host.Outcome State Fault Refusal :=
  .next (s.arriveThrough .ackAttention [b] (takeAckAttention b))

/-- The presented cause leaves and a pending cause is promoted (R158). -/
def Entry.acknowledged (e : Entry) : Entry := { e with presented := e.pendingCause, pendingCause := none }

/-- The result was OK, its two bytes were clocked out in full, and no line reset of the station's line has
acted since the snapshot (R158). -/
def Port.ackReady (p : Port) : Bool :=
  p.op == some .ackAttention && p.taken && p.response.getD 0 absentByte == ResultCode.ok.byte
    && decide (2 ≤ p.clocked) && !p.ackVoid

/-- The acknowledgement at the rise of CSn (R158). -/
def takeAcknowledge (s : State) : State :=
  if s.port.ackReady then
    match stationOfByte (s.port.param 0) with
    | some st => s.setEntry st (s.entry st).acknowledged
    | none => s
  else s

/-- ATTENTION_ACKNOWLEDGE (R158). -/
def execAttentionAcknowledge (s : State) : Host.Outcome State Fault Refusal :=
  .next (s.riseWhen s.port.ackReady takeAcknowledge)

end Sys2Proof.Machine
end

