-- ==== Sys2Proof/Machine/LineService.lean ====
section
/-!
DEFINITION. The instructions on a line's service (chapter 9): READ LINE, QUIESCE LINE, RESUME LINE, and
the quiesce deadline.
-/

namespace Sys2Proof.Machine

/-- The snapshot of READ LINE (R170). -/
def takeReadLine (b : Byte) (s : State) : State :=
  match lineOfByte b with
  | none => s.commandError
  | some n => s.respond (s.lineResponse n)

/-- READ_LINE (R170). -/
def execReadLine (b : Byte) (s : State) : Host.Outcome State Fault Refusal :=
  .next (s.arriveThrough .readLine [b] (takeReadLine b))

/-- READ LINE's snapshot reported the marker set, and the second response byte was clocked out (R170). -/
def Port.finishedReported (p : Port) : Bool :=
  p.op == some .readLine && p.taken && (p.response.getD 1 0#8).getLsbD 7 && decide (2 ≤ p.clocked)

/-- The clearing of the quiesce-finished marker at the rise of CSn (R170). -/
def takeFinishedClear (s : State) : State :=
  if s.port.finishedReported then
    match lineOfByte (s.port.param 0) with
    | some n => s.setLine n { s.line n with quiesceFinished := false }
    | none => s
  else s

/-- QUIESCE_FINISHED_CLEAR (R170). -/
def execQuiesceFinishedClear (s : State) : Host.Outcome State Fault Refusal :=
  .next (s.riseWhen s.port.finishedReported takeFinishedClear)

/-- QUIESCE LINE of an OPEN line: DRAINING, outcome absent, and the drain tested at once (R161). -/
def State.quiesceLine (n : LineNo) (s : State) : State :=
  (s.setLine n { s.line n with service := .draining, quiesceOutcome := none }).settle n

/-- QUIESCE LINE at its line byte (R161). -/
def takeQuiesceLine (b : Byte) (s : State) : State :=
  match lineOfByte b with
  | none => s.commandError
  | some n =>
    if (s.line n).service = .opened then (s.quiesceLine n).respond [ResultCode.ok.byte]
    else s.respond [ResultCode.notOpen.byte]

/-- QUIESCE_LINE (R161). -/
def execQuiesceLine (b : Byte) (s : State) : Host.Outcome State Fault Refusal :=
  .next (s.arriveThrough .quiesceLine [b] (takeQuiesceLine b))

/-- RESUME LINE of a line that is not OPEN: OPEN, the deadline stopped, due probes queued, the arbiter's
choice (R169). -/
def State.resumeLine (n : LineNo) (s : State) : State :=
  ((s.setLine n { s.line n with service := .opened, quiesceDeadline := none }).probeSweep n).choose n

/-- RESUME LINE at its line byte (R169). -/
def takeResumeLine (b : Byte) (s : State) : State :=
  match lineOfByte b with
  | none => s.commandError
  | some n =>
    if (s.line n).service = .opened then s.respond [ResultCode.alreadyOpen.byte]
    else (s.resumeLine n).respond [ResultCode.ok.byte]

/-- RESUME_LINE (R169). -/
def execResumeLine (b : Byte) (s : State) : Host.Outcome State Fault Refusal :=
  .next (s.arriveThrough .resumeLine [b] (takeResumeLine b))

/-- The quiesce deadline of a line in AWAITING_ACKS expires: QUIESCED with DEADLINE (R166). A deadline that
is stopped, or whose expiry tick has not ended, does not expire (R119). -/
def State.quiesceExpiry (n : LineNo) (s : State) : State :=
  match (s.line n).quiesceDeadline with
  | none => s
  | some e =>
    if (s.line n).service = .awaitingAcks ∧ s.passed e = true then s.enterQuiesced n .deadline else s

/-- QUIESCE_DEADLINE_EXPIRY (R166). -/
def execQuiesceDeadlineExpiry (n : LineNo) (s : State) : Host.Outcome State Fault Refusal :=
  .next (if s.operating then s.quiesceExpiry n else s)

end Sys2Proof.Machine
end

