-- ==== Sys2Proof/Machine/Links.lean ====
section
/-!
DEFINITION. Link conditions, line reset, soft reset and the ends of frames on the wire
(chapters 5, 6 and 11).
-/

namespace Sys2Proof.Machine

/-! ### Link up and link lost (R111 to R114) -/

/-- ABSENT and LOST entries become due (R56). -/
def Entry.dueIfProbed (t : Tick) (e : Entry) : Entry := if e.state.probed then e.dueAt t else e

/-- The receiver as it begins to form characters: HUNTING, or DISCARDING while RESETTING is 1 (R112). -/
def State.freshRx (s : State) : RxCond := if s.resetting then .discarding else .hunting

/-- A DOWN line comes UP, with no character begun, also when RXD has gone to space since the sample that completed the
mark run (R112) [log 31]. -/
def State.linkUp (n : LineNo) (s : State) : State :=
  let s := s.setLine n { s.line n with
    link := .up, rx := s.freshRx, phase := .none, quiet := 0, spaceRun := 0 }
  let s := s.mapLineEntries n (Entry.dueIfProbed s.tick)
  (s.probeSweep n).choose n

/-- The mark run of a line has reached 4 character times of 10 bits (R112): its last sample completes the run
[log 25]. -/
def State.markReached (s : State) (n : LineNo) : Bool :=
  decide (40 * s.params.lineRate[n.val] ≤ (s.line n).markRun)

/-- The space run of a line has reached 2 character times (R113): its last sample completes the run [log 25]. -/
def State.spaceReached (s : State) (n : LineNo) : Bool :=
  decide (20 * s.params.lineRate[n.val] ≤ (s.line n).spaceRun)

/-- LINK_UP (R112): the mark run of a DOWN line reaches 4 character times, as the detector has counted it, or with RXD
at mark [log 4]. -/
def execLinkUp (n : LineNo) (s : State) : Host.Outcome State Fault Refusal :=
  .next
    (if s.operating && (s.line n).link == .down && (s.pins.rxdMark[n.val] || s.markReached n) then s.linkUp n
    else s)

/-- A transmitter whose link leaves UP: SENDING becomes STOPPING, the frame cut after the character in
progress (R95). -/
def Tx.cut : Tx → Tx
  | .idle => .idle
  | .sending f _ p => .stopping f p
  | .stopping f p => .stopping f p

/-- What every loss of the link does to the line's own state: the receiver stops and discards the frame in assembly
without report, also where R77, R81 and R159 name a report for a frame after OFF or DOWN [log 28], the transmitter is
cut, the control queue is emptied (R88, R113, R114). -/
def Line.unlinked (l : Line) (k : Link) : Line :=
  { l with link := k, rx := .hunting, phase := .none, quiet := 0, markRun := 0, spaceRun := 0,
           tx := l.tx.cut, controlQ := [] }

/-- The live records of a line (R113). -/
def State.liveOnLine (s : State) (n : LineNo) : List RecordIdx := s.liveWhere (fun x => x.line == n)

/-- A PRESENT entry of a line that goes DOWN: LOST, change marker set, due (R57). -/
def Entry.lostByDown (t : Tick) (e : Entry) : Entry :=
  if e.state = .present then { e.dueAt t with state := .lost, changed := true } else e

/-- An UP line goes DOWN (R57, R113, R168). -/
def State.linkDown (n : LineNo) (s : State) : State :=
  let s := s.setLine n ((s.line n).unlinked .down)
  let s := s.endRecords .lineDown true (s.liveOnLine n)
  let s := s.mapLineEntries n (Entry.lostByDown s.tick)
  s.settle n

/-- LINK_DOWN (R113): the space run of an UP line reaches 2 character times, as the detector has counted it, or with RXD
at space [log 4]. -/
def execLinkDown (n : LineNo) (s : State) : Host.Outcome State Fault Refusal :=
  .next
    (if s.operating && (s.line n).link == .up && (!s.pins.rxdMark[n.val] || s.spaceReached n) then s.linkDown n
    else s)

/-- An entry of a line that goes OFF: PRESENT and LOST become ABSENT with identity cleared, the marker
set if it was PRESENT, and every fence place emptied (R58, R80, R114). -/
def Entry.byOff (t : Tick) (e : Entry) : Entry :=
  let e := { e with fence := Vector.replicate 16 none }
  if e.state = .present ∨ e.state = .lost then
    { e.dueAt t with
      state := .absent, identity := none, window := none, replaced := false, failures := 0
      changed := e.changed || e.state == .present }
  else e

/-- A line that is DOWN or UP goes OFF (R58, R80, R114, R168). -/
def State.linkOff (n : LineNo) (s : State) : State :=
  let s := s.setLine n ((s.line n).unlinked .off)
  let s := s.endRecords .lineDown false (s.liveOnLine n)
  let s := s.mapLineEntries n (Entry.byOff s.tick)
  s.settle n

/-- An OFF line is set ON: DOWN, the detector started with a mark run of 0 (R111). -/
def State.linkOn (n : LineNo) (s : State) : State :=
  s.setLine n { s.line n with link := .down, markRun := 0, spaceRun := 0 }

/-- What a write of LINE_ENABLE does to the link: nothing when it has the value already (R111). -/
def State.lineEnabled (n : LineNo) (on : Bool) (s : State) : State :=
  if on then (if (s.line n).link = .off then s.linkOn n else s)
  else (if (s.line n).link = .off then s else s.linkOff n)

/-! ### Line reset (R24, R69, R80, R97, R116, R171) -/

/-- An entry under a reset of its line or of the device (R68, R69): fences and marks cleared, cursor
kept; unless DISABLED it becomes ABSENT, cleared, and due. -/
def Entry.reset (t : Tick) (e : Entry) : Entry :=
  let e := { e with fence := Vector.replicate 16 none, changed := false, ackMark := false }
  if e.state = .disabled then e
  else { e.dueAt t with
    state := .absent, identity := none, window := none, replaced := false, failures := 0
    presented := none, pendingCause := none }

/-- A receiver that forms characters gives up its frame, without report, and becomes DISCARDING (R116, R117): so too
when the frame's last characters are still to come, where R77, R81 and R159 name a report [log 28]. -/
def Line.discardFrame (l : Line) : Line := if l.link = .up then { l with rx := .discarding, quiet := 0 } else l

/-- The line's own part of a line reset: queue emptied, mark cleared, OPEN, detector restarted (R97, R116, R171). -/
def Line.resetOwn (l : Line) : Line :=
  { l.discardFrame with
    controlQ := [], resetWaiting := false, service := .opened, quiesceDeadline := none,
    markRun := 0, spaceRun := 0 }

/-- A line reset of the station's line acts after an ACK ATTENTION's snapshot (R158). -/
def Port.voidAck (p : Port) (n : LineNo) : Port :=
  if p.op = some .ackAttention ∧ p.taken = true ∧ (stationOfByte (p.param 0)).map lineOf = some n then
    { p with ackVoid := true }
  else p

/-- A line reset acts (R97). -/
def State.lineResetActs (n : LineNo) (s : State) : State :=
  let s := s.endRecords .lineReset false (s.liveOnLine n)
  let s := s.setLine n (s.line n).resetOwn
  let s := s.mapLineEntries n (Entry.reset s.tick)
  let s := { s with port := s.port.voidAck n }
  (s.probeSweep n).choose n

/-- LINE RESET taken: it acts at once on an IDLE transmitter, and otherwise waits (R97, R196). -/
def State.lineResetTaken (n : LineNo) (s : State) : State :=
  if (s.line n).tx = .idle then s.lineResetActs n else s.setLine n { s.line n with resetWaiting := true }

/-- LINE RESET at the rise of CSn (R196). -/
def takeLineReset (b : Byte) (s : State) : State :=
  match lineOfByte b with
  | none => s.commandError
  | some n => s.lineResetTaken n

/-- LINE_RESET (R196). -/
def execLineReset (b : Byte) (s : State) : Host.Outcome State Fault Refusal :=
  .next (s.riseThrough [Opcode.lineReset.code, b] (takeLineReset b))

/-! ### Soft reset (R195) -/

/-- The lines whose transmitter is SENDING or STOPPING (R195). -/
def State.busyLines (s : State) : List LineNo := (List.finRange 8).filter (fun n => (s.line n).tx != .idle)

/-- Every arbiter makes its choice (R91, R195). -/
def State.chooseAll (s : State) : State := (List.finRange 8).foldl (fun s n => s.choose n) s

/-- The end of the in-progress period: RESETTING 0, the idle measure of DISCARDING receivers begun anew
(R117), every arbiter's choice (R195). -/
def State.endPeriod (s : State) : State :=
  let s := { s with resetting := false }
  (s.mapLines fun _ l => if l.rx = .discarding then { l with quiet := 0 } else l).chooseAll

/-- A record under a soft reset: FREE with its generation advanced, unless it was FREE (R23). -/
def Record.softReset (x : Record) : Record := if x.state = .free then x else Record.blank (x.gen + 1)

/-- A line under a soft reset (R98, R117, R171). -/
def Line.softReset (l : Line) : Line :=
  { l.discardFrame with
    dispatchQ := [], controlQ := [], resetWaiting := false, service := .opened, quiesceDeadline := none }

/-- The soft reset of records, completion queue, C and idle timer (R23, R154). -/
def State.softExchanges (s : State) : State :=
  { s.mapRecords Record.softReset with completionQ := [], signalC := false, idleTimer := none }

/-- The soft reset of every line's queues, service and receiver (R98, R117, R171). -/
def State.softLines (s : State) : State := s.mapLines fun _ l => l.softReset

/-- The soft reset of every entry (R68, R80). -/
def State.softEntries (s : State) : State := s.mapEntries fun _ e => e.reset s.tick

/-- The due entries of every line have their PROBEs queued (R63, R68). -/
def State.probeAll (s : State) : State := (List.finRange 8).foldl (fun s n => s.probeSweep n) s

/-- The in-progress period begins, unless no transmitter is busy and it ends in the same event (R195). -/
def State.beginPeriod (s : State) : State :=
  if s.busyLines.isEmpty then s.endPeriod else { s with resetting := true }

/-- SOFT RESET takes effect (R195). -/
def takeSoftReset (s : State) : State :=
  s.softExchanges.softLines.softEntries.probeAll.beginPeriod

/-- SOFT_RESET (R195). -/
def execSoftReset (s : State) : Host.Outcome State Fault Refusal :=
  .next (s.riseThrough [Opcode.softReset.code] takeSoftReset)

/-! ### The ends of frames (R12, R93, R95) -/

/-- The transmitter presents the handle it took: a current record in TRANSMITTING becomes SENT with a
REPLY deadline of its class; any other is left alone (R12). -/
def State.presentHandle (h : Option Handle) (s : State) : State :=
  match h with
  | none => s
  | some h =>
    let x := s.record h.index
    if x.gen = h.gen ∧ x.state = .transmitting then
      s.setRecord h.index { x with
        state := .sent
        deadline := some { kind := .reply, expiry := s.after s.params.deadlineClass[x.deadlineClass.val] } }
    else s

/-- The transmitter has become IDLE: a waiting line reset acts, the in-progress period may end, and
otherwise the arbiter chooses (R93, R95, R195). -/
def State.afterIdle (n : LineNo) (s : State) : State :=
  let s := if (s.line n).resetWaiting then s.lineResetActs n else s
  if s.resetting then (if s.busyLines.isEmpty then s.endPeriod else s) else s.choose n

/-- A transmit end (R93). -/
def State.transmitEnd (n : LineNo) (s : State) : State :=
  match (s.line n).tx with
  | .idle => s
  | .sending _ h _ =>
    let s := s.presentHandle h
    (s.setLine n { s.line n with tx := .idle }).afterIdle n
  | .stopping _ _ => s

/-- TRANSMIT_END (R93). -/
def execTransmitEnd (n : LineNo) (s : State) : Host.Outcome State Fault Refusal :=
  .next (if s.operating then s.transmitEnd n else s)

/-- The end of the character of a cut frame (R95). -/
def State.stoppingEnd (n : LineNo) (s : State) : State :=
  match (s.line n).tx with
  | .idle => s
  | .sending _ _ _ => s
  | .stopping _ _ => (s.setLine n { s.line n with tx := .idle }).afterIdle n

/-- STOPPING_END (R95). -/
def execStoppingEnd (n : LineNo) (s : State) : Host.Outcome State Fault Refusal :=
  .next (if s.operating then s.stoppingEnd n else s)

/-- The transmitter of a line becomes IDLE, whichever way it was busy. -/
def State.txEnd (n : LineNo) (s : State) : State :=
  match (s.line n).tx with
  | .idle => s.afterIdle n
  | .sending _ _ _ => s.transmitEnd n
  | .stopping _ _ => s.stoppingEnd n

/-- LINE_RESET_ACT (R97): the event in which the transmitter becomes IDLE while a line reset waits
[log 20]. -/
def execLineResetAct (n : LineNo) (s : State) : Host.Outcome State Fault Refusal :=
  .next (if s.operating && (s.line n).resetWaiting then s.txEnd n else s)

/-- RESET_PERIOD_END (R195): the event in which the last busy transmitter becomes IDLE while RESETTING
is 1 [log 20]. -/
def execResetPeriodEnd (s : State) : Host.Outcome State Fault Refusal :=
  .next
    (if s.operating && s.resetting then
      match s.busyLines with
      | [] => s.endPeriod
      | [n] => s.txEnd n
      | _ :: _ :: _ => s
    else s)

end Sys2Proof.Machine
end

