-- ==== Sys2Proof/Machine/Parameters.lean ====
section
/-!
DEFINITION. SET PARAMETER in all its named forms, READ PARAMETER, READ STATUS, READ ERRORS and CLEAR ERRORS
(chapters 10, 11 and 12).
-/

namespace Sys2Proof.Machine

/-- What a write does beside storing the value: LINE_ENABLE acts on the link (R111, R114) and
COALESCE_COUNT re-evaluates C (R152); every other parameter is read where it bites (R192). -/
def State.afterWrite (p : Param) (index value : Nat) (s : State) : State :=
  match p with
  | .lineEnable => if h : index < 8 then s.lineEnabled ⟨index, h⟩ (value != 0) else s
  | .coalesceCount => s.afterCoalesceWrite
  | _ => s

/-- SET PARAMETER at the rise of CSn: the checks of R192, then the write, or COMMAND_ERROR. -/
def State.writeParameter (number index value : Nat) (s : State) : State :=
  match s.checkedParam number index value with
  | none => s.commandError
  | some p => ({ s with params := s.params.write p index value }).afterWrite p index value

/-- The bytes of a SET PARAMETER (R192). -/
def setBytes (number index : Byte) (value : BitVec 16) : List Byte :=
  [Opcode.setParameter.code, number, index, highByte value.toNat, lowByte value.toNat]

/-- A SET PARAMETER transaction's rise of CSn (R192). -/
def State.setRise (number index : Byte) (value : BitVec 16) (s : State) : State :=
  s.riseThrough (setBytes number index value) (State.writeParameter number.toNat index.toNat value.toNat)

/-- SET_PARAMETER (R192). -/
def execSetParameter (number index : Byte) (value : BitVec 16) (s : State) : Host.Outcome State Fault Refusal :=
  .next (s.setRise number index value)

/-- LINE_ENABLE_ON (R111). -/
def execLineEnableOn (n : LineNo) (s : State) : Host.Outcome State Fault Refusal :=
  .next (s.setRise 2#8 (byteOf n.val) 1#16)

/-- LINE_ENABLE_OFF (R114). -/
def execLineEnableOff (n : LineNo) (s : State) : Host.Outcome State Fault Refusal :=
  .next (s.setRise 2#8 (byteOf n.val) 0#16)

/-- SET_LINE_RATE (R99). -/
def execSetLineRate (n : LineNo) (v : BitVec 16) (s : State) : Host.Outcome State Fault Refusal :=
  .next (s.setRise 3#8 (byteOf n.val) v)

/-- SET_WINDOW_LIMIT (R50). -/
def execSetWindowLimit (n : LineNo) (v : BitVec 16) (s : State) : Host.Outcome State Fault Refusal :=
  .next (s.setRise 4#8 (byteOf n.val) v)

/-- SET_TICK_DIVIDER (R118): the value bites at the next tick boundary. -/
def execSetTickDivider (v : BitVec 16) (s : State) : Host.Outcome State Fault Refusal :=
  .next (s.setRise 1#8 0#8 v)

/-- SET_URGENT_RESERVE (R20, R21). -/
def execSetUrgentReserve (v : BitVec 16) (s : State) : Host.Outcome State Fault Refusal :=
  .next (s.setRise 15#8 0#8 v)

/-- SET_COALESCE_COUNT (R152). -/
def execSetCoalesceCount (v : BitVec 16) (s : State) : Host.Outcome State Fault Refusal :=
  .next (s.setRise 16#8 0#8 v)

/-- SET_NOTE_ENABLE (R153). -/
def execSetNoteEnable (v : BitVec 16) (s : State) : Host.Outcome State Fault Refusal :=
  .next (s.setRise 19#8 0#8 v)

/-- SET_ERROR_CLASS (R176). -/
def execSetErrorClass (kind : Byte) (v : BitVec 16) (s : State) : Host.Outcome State Fault Refusal :=
  .next (s.setRise 20#8 kind v)

/-- SET_FAULT_ENABLE (R177). -/
def execSetFaultEnable (kind : Byte) (v : BitVec 16) (s : State) : Host.Outcome State Fault Refusal :=
  .next (s.setRise 21#8 kind v)

/-- The snapshot of READ PARAMETER (R193). -/
def takeReadParameter (number index : Byte) (s : State) : State :=
  match Param.ofNumber number.toNat with
  | none => s.commandError
  | some p =>
    if index.toNat < p.indexCount then s.respond (s.parameterResponse p index.toNat) else s.commandError

/-- READ_PARAMETER (R193). -/
def execReadParameter (number index : Byte) (s : State) : Host.Outcome State Fault Refusal :=
  .next (s.arriveThrough .readParameter [number, index] (takeReadParameter number index))

/-- The snapshot of READ STATUS (R190). -/
def takeReadStatus (s : State) : State := s.respond s.statusResponse

/-- READ_STATUS (R190). -/
def execReadStatus (s : State) : Host.Outcome State Fault Refusal :=
  .next (s.arriveThrough .readStatus [] takeReadStatus)

/-- The snapshot of READ ERRORS (R178). -/
def takeReadErrors (s : State) : State := s.respond s.errorsResponse

/-- READ_ERRORS (R178). -/
def execReadErrors (s : State) : Host.Outcome State Fault Refusal :=
  .next (s.arriveThrough .readErrors [] takeReadErrors)

/-- CLEAR ERRORS at the rise of CSn (R179). -/
def takeClearErrors (s : State) : State := { s with faults := FaultAccount.empty }

/-- CLEAR_ERRORS (R179). -/
def execClearErrors (s : State) : Host.Outcome State Fault Refusal :=
  .next (s.riseThrough [Opcode.clearErrors.code] takeClearErrors)

end Sys2Proof.Machine
end

