-- ==== Sys2Proof/Machine/Replies.lean ====
section
/-!
DEFINITION. What a good upstream frame does when it is taken (chapters 3, 4, 7 and 9): REPLY, HOLDOFF,
PROBE_ANSWER, ATTENTION and QUIESCE_ACK.
-/

namespace Sys2Proof.Machine

/-- The report of a good frame of line `n`: line, drop and header bytes, and the sequence for a REPLY or a
HOLDOFF (R174). -/
def frameReport (kind : ErrorKind) (n : LineNo) (f : Frame) : Occurrence :=
  { kind := kind, line := some n, drop := some f.drop
    seq := if f.kind = .reply ∨ f.kind = .holdoff then some f.seq else none
    header := some f.header, opcode := none }

/-! ### REPLY (R121 to R127) -/

/-- A QUEUED record leaves its dispatch queue with the frame it takes (R13, R85). -/
def State.withdraw (r : RecordIdx) (s : State) : State :=
  if (s.record r).state = .queued then s.leaveDispatch r else s

/-- A record that was QUEUED has joined those the drain waits for (R128, R167). -/
def State.joined (was : RecState) (n : LineNo) (s : State) : State :=
  if was = .queued then s.returnToDraining n else s

/-- A reply or holdoff in error: the record fails with the outcome, its sequence is fenced, and the kind is
reported (R127). The report comes before those of the line service's tests, which follow in State.settle: when this
record's end completes a drain and the control queue is full, R175 lets either be taken first [log 26]. -/
def State.failByFrame (o : ExchOutcome) (kind : ErrorKind) (n : LineNo) (f : Frame) (r : RecordIdx)
    (s : State) : State :=
  (s.endRecords o true [r]).report (frameReport kind n f)

/-- An accepted segment without LAST: PARTIAL with a SEGMENT deadline started or restarted (R124). -/
def State.acceptPart (n : LineNo) (f : Frame) (r : RecordIdx) (s : State) : State :=
  let x := s.record r
  let s := s.withdraw r
  (s.setRecord r { x with
    state := .partly, reply := x.reply ++ f.payload, segments := x.segments + 1
    deadline := some { kind := .segment, expiry := s.after s.params.segmentInterval } }).joined x.state n

/-- An accepted segment with LAST: DONE with the station status; the sequence is fenced after a retry and
released otherwise (R72, R125). -/
def State.acceptLast (f : Frame) (r : RecordIdx) (s : State) : State :=
  let x := s.record r
  (s.setRecord r { x with
    reply := x.reply ++ f.payload, segments := x.segments + 1, status := some f.kindByte }).endRecords
      .done (decide (1 ≤ x.retriesUsed)) [r]

/-- A next segment: the checks of R124 in their order. -/
def State.nextSegment (n : LineNo) (f : Frame) (r : RecordIdx) (s : State) : State :=
  if f.segment = 3 ∧ f.last = false then s.failByFrame .segmentError .segmentError n f r
  else if Config.maxReply < (s.record r).reply.length + f.payload.length then
    s.failByFrame .replyOverrun .replyOverrun n f r
  else if f.last then s.acceptLast f r
  else s.acceptPart n f r

/-- A REPLY delivered to the record that holds its sequence (R123, R126). -/
def State.deliverReply (n : LineNo) (f : Frame) (r : RecordIdx) (s : State) : State :=
  if (s.record r).state = .deferred then s.failByFrame .segmentError .segmentError n f r
  else if f.segment.val < (s.record r).segments then s.report (frameReport .lateReply n f)
  else if f.segment.val = (s.record r).segments then s.nextSegment n f r
  else s.failByFrame .segmentError .segmentError n f r

/-! ### HOLDOFF (R129, R130) -/

/-- The length of a holdoff wait: the larger of 10 × hint and HOLDOFF_MINIMUM (R120). -/
def State.holdoffLength (s : State) (f : Frame) : Nat := max (10 * f.kindByte.toNat) s.params.holdoffMinimum

/-- A holdoff within HOLDOFF_LIMIT: DEFERRED with a HOLDOFF deadline (R130). -/
def State.defer (n : LineNo) (f : Frame) (r : RecordIdx) (s : State) : State :=
  let x := s.record r
  let s := s.withdraw r
  (s.setRecord r { x with
    state := .deferred, holdoffs := x.holdoffs + 1
    deadline := some { kind := .holdoff, expiry := s.after (s.holdoffLength f) } }).joined x.state n

/-- A holdoff counted against a record (R130). -/
def State.countHoldoff (n : LineNo) (f : Frame) (r : RecordIdx) (s : State) : State :=
  if (s.record r).holdoffs < s.params.holdoffLimit then s.defer n f r
  else s.endRecords .heldOff (decide (1 ≤ (s.record r).retriesUsed)) [r]

/-- A HOLDOFF delivered to the record that holds its sequence (R129). -/
def State.deliverHoldoff (n : LineNo) (f : Frame) (r : RecordIdx) (s : State) : State :=
  if (s.record r).state = .partly then s.failByFrame .segmentError .segmentError n f r
  else if (s.record r).state = .deferred then s.report (frameReport .lateReply n f)
  else s.countHoldoff n f r

/-! ### The lookup (R76, R121, R122) -/

/-- A REPLY or HOLDOFF: stray from a station that is not PRESENT; else a sign of life, then delivered to the
record that holds its sequence, or LATE_REPLY when the sequence is fenced, or UNEXPECTED_REPLY when it
is free (R76, R121, R122). The line service and the arbiter follow, so a report of the frame precedes the
CONTROL_DROPPED of a QUIESCE frame in the same event, an order that R175 leaves open [log 26]. -/
def State.matchFrame (deliver : RecordIdx → State → State) (n : LineNo) (f : Frame) (s : State) : State :=
  let st := stationAt n f.drop
  if (s.entry st).state ≠ .present then s.report (frameReport .strayFrame n f)
  else
    let s := s.signOfLife st
    match s.holder st f.seq with
    | some r => (deliver r s).settle n
    | none =>
      if s.fenced st f.seq then s.report (frameReport .lateReply n f)
      else s.report (frameReport .unexpectedReply n f)

/-- A good REPLY is taken (R121, R123). -/
def takeReply (n : LineNo) (f : UpFields) (s : State) : State :=
  s.matchFrame (State.deliverReply n (f.frame .reply)) n (f.frame .reply)

/-- A good HOLDOFF is taken (R121, R129). -/
def takeHoldoff (n : LineNo) (f : UpFields) (s : State) : State :=
  s.matchFrame (State.deliverHoldoff n (f.frame .holdoff)) n (f.frame .holdoff)

/-! ### PROBE_ANSWER (R47 to R49) -/

/-- The identity a PROBE_ANSWER's payload carries: class code, high byte first, then the revision (R202). -/
def identityOf (payload : List Byte) : Identity :=
  { classCode := BitVec.ofNat 16 (wordOf (payload.getD 0 0#8) (payload.getD 1 0#8))
    revision := payload.getD 2 0#8 }

/-- The entry of an admitted station (R47): PRESENT with the frame's identity and window, at most 4; the
replaced flag is set when the entry held another identity (R49). -/
def Entry.admitted (e : Entry) (f : UpFields) : Entry :=
  { e with
    state := .present
    identity := some (identityOf f.payload)
    window := some (min 4 f.kindByte.toNat)
    replaced := match e.identity with
      | none => e.replaced
      | some i => e.replaced || i != identityOf f.payload
    failures := 0, changed := true, probeDue := false }

/-- On a line that awaits acknowledgements, the newly PRESENT station is sent QUIESCE and awaited (R165). -/
def State.awaitNew (n : LineNo) (d : DropNo) (s : State) : State :=
  if (s.line n).service = .awaitingAcks then
    (s.setEntry (stationAt n d) { s.entry (stationAt n d) with ackMark := false }).offer n (.quiesce d)
  else s

/-- The admission of an ABSENT or LOST station (R47, R165). -/
def State.makePresent (n : LineNo) (f : UpFields) (s : State) : State :=
  let s := s.setEntry (stationAt n f.drop) ((s.entry (stationAt n f.drop)).admitted f)
  (s.awaitNew n f.drop).settle n

/-- A good PROBE_ANSWER is taken: the checks of R48 in their order. -/
def takeProbeAnswer (n : LineNo) (f : UpFields) (s : State) : State :=
  let st := stationAt n f.drop
  if f.kindByte.toNat = 0 ∨ f.payload.length ≠ 3 then s.report (frameReport .formatError n (f.frame .probeAnswer))
  else match (s.entry st).state with
    | .present => (s.signOfLife st).report (frameReport .strayFrame n (f.frame .probeAnswer))
    | .disabled => s.report (frameReport .strayFrame n (f.frame .probeAnswer))
    | .absent => s.makePresent n f
    | .lost => s.makePresent n f

/-! ### ATTENTION (R156, R157) -/

/-- A cause placed in the first slot that applies, or refused: reported, and answered with ATTN_REFUSED
(R156, R157). -/
def State.placeCause (n : LineNo) (f : UpFields) (s : State) : State :=
  let st := stationAt n f.drop
  let e := s.entry st
  match e.presented, e.pendingCause with
  | none, _ => s.setEntry st { e with presented := some f.kindByte }
  | some _, none => s.setEntry st { e with pendingCause := some f.kindByte }
  | some _, some _ =>
    ((s.report (frameReport .attentionRefused n (f.frame .attention))).offer n
      (.attnRefused f.drop f.kindByte)).choose n

/-- A good ATTENTION is taken (R156). -/
def takeAttention (n : LineNo) (f : UpFields) (s : State) : State :=
  let st := stationAt n f.drop
  if (s.entry st).state ≠ .present then s.report (frameReport .strayFrame n (f.frame .attention))
  else (s.signOfLife st).placeCause n f

/-! ### QUIESCE_ACK (R164) -/

/-- The station's quiesce-ack mark is set (R164). -/
def State.markAck (st : StationIdx) (s : State) : State := s.setEntry st { s.entry st with ackMark := true }

/-- A good QUIESCE_ACK is taken (R164). -/
def takeQuiesceAck (n : LineNo) (f : UpFields) (s : State) : State :=
  let st := stationAt n f.drop
  if (s.entry st).state ≠ .present then s.report (frameReport .strayFrame n (f.frame .quiesceAck))
  else match (s.line n).service with
    | .opened => (s.signOfLife st).report (frameReport .strayFrame n (f.frame .quiesceAck))
    | .draining => (s.signOfLife st).report (frameReport .strayFrame n (f.frame .quiesceAck))
    | .awaitingAcks => (((s.signOfLife st).markAck st).testAcks n)
    | .quiesced => (s.signOfLife st).markAck st

/-! ### Routing (R109) -/

/-- A good frame of an upstream kind is taken by the block that owns the state it concerns (R109). The
receiver lets no downstream kind come so far (R107). -/
def takeFrame (k : FrameKind) (n : LineNo) (f : UpFields) (s : State) : State :=
  match k with
  | .reply => takeReply n f s
  | .holdoff => takeHoldoff n f s
  | .probeAnswer => takeProbeAnswer n f s
  | .attention => takeAttention n f s
  | .quiesceAck => takeQuiesceAck n f s
  | .request => s
  | .abandon => s
  | .probe => s
  | .quiesce => s
  | .attnRefused => s

end Sys2Proof.Machine
end

