-- ==== Sys2Proof/WellFormed.lean ====
section
/-!
DEFINITION. The commands that name an event the device can meet. An ill-formed command names none: its
meaning leaves the state as it is [log 3].
-/

namespace Sys2Proof

/-- A good frame carries at most 32 payload bytes (R101, R107). -/
def UpFields.wf (f : UpFields) : Bool := decide (f.payload.length ≤ Config.maxPayload)

/-- The check on a command's operands. -/
def Instr.wf : Instr → Bool
  | .transactionStart => true
  | .readStatus => true
  | .postAdmission _ _ _ _ => true
  | .postCommit => true
  | .cancel _ _ => true
  | .collect _ _ => true
  | .collectNext => true
  | .collection => true
  | .readRecord _ _ => true
  | .readStation _ => true
  | .readStationChanges => true
  | .stationChangesClear => true
  | .enableStation _ => true
  | .disableStation _ => true
  | .ackAttention _ => true
  | .attentionAcknowledge => true
  | .readLine _ => true
  | .quiesceFinishedClear => true
  | .quiesceLine _ => true
  | .resumeLine _ => true
  | .lineReset _ => true
  | .lineResetAct _ => true
  | .setParameter _ _ _ => true
  | .lineEnableOn _ => true
  | .lineEnableOff _ => true
  | .setLineRate _ _ => true
  | .setWindowLimit _ _ => true
  | .setTickDivider _ => true
  | .setUrgentReserve _ => true
  | .setCoalesceCount _ => true
  | .setNoteEnable _ => true
  | .setErrorClass _ _ => true
  | .setFaultEnable _ _ => true
  | .readParameter _ _ => true
  | .readErrors => true
  | .clearErrors => true
  | .softReset => true
  | .resetPeriodEnd => true
  -- R188: an unknown opcode names no instruction of R203.
  | .unknownOpcode b => (Opcode.ofByte b).isNone
  | .shortInstruction => true
  | .pinReset _ => true
  | .resetnRelease => true
  | .powerOnReset => true
  | .tick => true
  | .linkUp _ => true
  | .linkDown _ => true
  | .reply _ f => f.wf
  | .holdoff _ f => f.wf
  | .probeAnswer _ f => f.wf
  | .attention _ f => f.wf
  | .quiesceAck _ f => f.wf
  | .charError _ => true
  | .formatError _ _ _ _ _ => true
  -- R107, R108: the check is compared once the announced payload, at most 32 bytes, has arrived.
  | .checkError _ _ _ _ h4 payload _ _ =>
    decide (payload.length = h4.toNat) && decide (payload.length ≤ Config.maxPayload)
  | .receiveGapExpiry _ => true
  | .discardIdleEnd _ => true
  | .transmitEnd _ => true
  | .stoppingEnd _ => true
  | .replyDeadlineExpiry _ => true
  | .segmentDeadlineExpiry _ => true
  | .holdoffDeadlineExpiry _ => true
  | .fenceExpiry _ => true
  | .probeDue _ => true
  | .idleTimerExpiry => true
  | .quiesceDeadlineExpiry _ => true
  | .byteArrival _ => true
  | .transactionEnd => true
  | .goodCharacter _ _ => true
  | .rxdTransition _ => true
  | .refclkLoss _ => true
  | .refclkReturn => true

end Sys2Proof
end

