-- ==== Sys2Proof/Machine/Receive.lean ====
section
/-!
DEFINITION. The receiver of a station link (chapter 6): characters, frames in assembly, receive errors and
the level of RXD.
-/

namespace Sys2Proof.Machine

/-- The receiver of line `n` forms characters: the link is UP (R100). -/
def State.forming (s : State) (n : LineNo) : Bool := s.operating && (s.line n).link == .up

/-- The kind field of a header names REPLY or HOLDOFF (R108). -/
def namesReply (h1 : Byte) : Bool :=
  kindOfHeader h1 == some .reply || kindOfHeader h1 == some .holdoff

/-- A receive error with the fields the frame got far enough to have (R108, R174): the drop from the first
header byte, the sequence from the second when the kind names REPLY or HOLDOFF, and the header bytes,
where the kind of error carries them, when all four had arrived. -/
def receiveReport (kind : ErrorKind) (withHeader : Bool) (n : LineNo) (bs : List Byte) : Occurrence :=
  { kind := kind, line := some n
    drop := match bs with
      | [] => none
      | h1 :: _ => some (dropOfHeader h1)
    seq := match bs with
      | h1 :: h2 :: _ => if namesReply h1 then some (seqOfHeader h2) else none
      | _ => none
    header := if withHeader ∧ 4 ≤ bs.length then some (bs.take 4) else none
    opcode := none }

/-- A character given whole by a command: its waveform ends at the level of its stop bit, and the space run
restarts unless RXD was at space already (R100, R110) [log 15]. -/
def State.charGiven (n : LineNo) (mark : Bool) (c : RxCond) (s : State) : State :=
  { s.setLine n { s.line n with
      rx := c, phase := .none, quiet := 0
      spaceRun := if mark || s.pins.rxdMark[n.val] then 0 else (s.line n).spaceRun } with
    pins := { s.pins with rxdMark := s.pins.rxdMark.set n.val mark } }

/-- A character the receiver has sampled itself: RXD keeps its level; a transition to space that has followed a stop bit
at mark begins the next character (R100). After a stop bit at space none has begun, also when RXD has gone to mark and
back to space since [log 32]. -/
def State.charSampled (n : LineNo) (mark : Bool) (c : RxCond) (s : State) : State :=
  s.setLine n { s.line n with
    rx := c, quiet := 0
    phase := if mark && !s.pins.rxdMark[n.val] then .armed else .none }

/-- The receiver after a character: in the condition given, and the idle measure begun at the middle of the
stop bit (R104, R105). -/
def State.charTaken (n : LineNo) (mark : Bool) (c : RxCond) (s : State) : State :=
  match (s.line n).phase with
  | .complete _ _ => s.charSampled n mark c
  | .none => s.charGiven n mark c
  | .armed => s.charGiven n mark c
  | .bits _ _ _ => s.charGiven n mark c

/-- The payload length a complete header announces. -/
def announced (bs : List Byte) : Nat := (bs.getD 3 0#8).toNat

/-- The frame in assembly is complete: four header bytes, the announced payload and two check bytes (R104). -/
def frameComplete (bs : List Byte) : Bool := decide (4 ≤ bs.length) && decide (bs.length = 6 + announced bs)

/-- The payload of a complete frame. -/
def payloadOf (bs : List Byte) : List Byte := (bs.drop 4).take (announced bs)

/-- The check of a complete frame agrees (R102, R108). -/
def checkAgrees (bs : List Byte) : Bool :=
  bs.drop (4 + announced bs) == checkBytes (bs.take (4 + announced bs))

/-- The second check byte has arrived: a good frame is taken, a bad one reported; the receiver hunts (R108). -/
def State.frameArrived (n : LineNo) (bs : List Byte) (s : State) : State :=
  let s := s.charTaken n true .hunting
  if checkAgrees bs then
    match kindOfHeader (bs.getD 0 0#8) with
    | some k => takeFrame k n (fieldsOf (bs.getD 0 0#8) (bs.getD 1 0#8) (bs.getD 2 0#8) (payloadOf bs)) s
    | none => s
  else s.report (receiveReport .checkError true n bs)

/-- A good character added to the frame in assembly (R104, R107, R108). -/
def State.assemble (n : LineNo) (bs : List Byte) (s : State) : State :=
  if bs.length = 4 ∧ headerGood (bs.getD 0 0#8) (bs.getD 3 0#8) = false then
    (s.charTaken n true .discarding).report (receiveReport .formatError true n bs)
  else if frameComplete bs then s.frameArrived n bs
  else s.charTaken n true (.assembling bs)

/-- A good character completes on an UP line (R104). -/
def State.goodCharacter (n : LineNo) (b : Byte) (s : State) : State :=
  match (s.line n).rx with
  | .hunting => s.charTaken n true (if b = Config.startByte then .assembling [] else .hunting)
  | .assembling bs => s.assemble n (bs ++ [b])
  | .discarding => s.charTaken n true .discarding

/-- GOOD_CHARACTER (R104): none is formed unless the link is UP (R100). -/
def execGoodCharacter (n : LineNo) (b : Byte) (s : State) : Host.Outcome State Fault Refusal :=
  .next (if s.forming n then s.goodCharacter n b else s)

/-- A bad character completes on an UP line: it gives up a frame in assembly, and is ignored otherwise
(R104, R106). -/
def State.badCharacter (n : LineNo) (s : State) : State :=
  match (s.line n).rx with
  | .hunting => s.charTaken n false .hunting
  | .assembling bs => (s.charTaken n false .discarding).report (receiveReport .charError false n bs)
  | .discarding => s.charTaken n false .discarding

/-- CHAR_ERROR (R106). -/
def execCharError (n : LineNo) (s : State) : Host.Outcome State Fault Refusal :=
  .next (if s.forming n then s.badCharacter n else s)

/-! ### Whole frames (R107 to R109) -/

/-- The characters of `body` that have not yet arrived can arrive on line `n`: it is UP and either HUNTING,
or ASSEMBLING a frame that begins as `body` does and is not yet whole [log 6]; a DISCARDING receiver takes none [log 28]. -/
def State.receivable (s : State) (n : LineNo) (body : List Byte) : Bool :=
  s.forming n &&
    match (s.line n).rx with
    | .hunting => true
    | .assembling bs => decide (bs.length < body.length) && bs == body.take bs.length
    | .discarding => false

/-- The receive completion of a good frame: the receiver hunts, and the frame is taken (R108, R109). -/
def State.receiveFrame (k : FrameKind) (n : LineNo) (f : UpFields) (take : State → State) (s : State) : State :=
  if f.wf && s.receivable n (f.frame k).body then take (s.charTaken n true .hunting) else s

/-- REPLY (R123). -/
def execReply (n : LineNo) (f : UpFields) (s : State) : Host.Outcome State Fault Refusal :=
  .next (s.receiveFrame .reply n f (takeReply n f))

/-- HOLDOFF (R129). -/
def execHoldoff (n : LineNo) (f : UpFields) (s : State) : Host.Outcome State Fault Refusal :=
  .next (s.receiveFrame .holdoff n f (takeHoldoff n f))

/-- PROBE_ANSWER (R47). -/
def execProbeAnswer (n : LineNo) (f : UpFields) (s : State) : Host.Outcome State Fault Refusal :=
  .next (s.receiveFrame .probeAnswer n f (takeProbeAnswer n f))

/-- ATTENTION (R156). -/
def execAttention (n : LineNo) (f : UpFields) (s : State) : Host.Outcome State Fault Refusal :=
  .next (s.receiveFrame .attention n f (takeAttention n f))

/-- QUIESCE_ACK (R164). -/
def execQuiesceAck (n : LineNo) (f : UpFields) (s : State) : Host.Outcome State Fault Refusal :=
  .next (s.receiveFrame .quiesceAck n f (takeQuiesceAck n f))

/-- FORMAT_ERROR (R107): the fourth byte of a header that fails the link's checks. -/
def execFormatError (n : LineNo) (h1 h2 h3 h4 : Byte) (s : State) : Host.Outcome State Fault Refusal :=
  .next
    (if !headerGood h1 h4 && s.receivable n [h1, h2, h3, h4] then
      (s.charTaken n true .discarding).report (receiveReport .formatError true n [h1, h2, h3, h4])
    else s)

/-- CHECK_ERROR (R108): the last byte of a frame with a good header whose check disagrees. -/
def execCheckError (n : LineNo) (h1 h2 h3 h4 : Byte) (payload : List Byte) (c1 c2 : Byte) (s : State) :
    Host.Outcome State Fault Refusal :=
  .next
    (if headerGood h1 h4 && decide (payload.length = h4.toNat)
        && !([c1, c2] == checkBytes (h1 :: h2 :: h3 :: h4 :: payload))
        && s.receivable n (h1 :: h2 :: h3 :: h4 :: (payload ++ [c1, c2])) then
      (s.charTaken n true .hunting).report
        (receiveReport .checkError true n (h1 :: h2 :: h3 :: h4 :: (payload ++ [c1, c2])))
    else s)

/-! ### Idle line and RXD level (R104, R105, R110) -/

/-- RXD of line `n` is at mark with no character begun. A start transition taken before the gap expiry or the end of
DISCARDING ends the wait for it, though the measure has been exceeded already [log 30]. -/
def State.rxdIdle (s : State) (n : LineNo) : Bool := s.pins.rxdMark[n.val] && (s.line n).phase == .none

/-- More than 2 character times of idle inside a frame: FORMAT_ERROR, and HUNTING at once (R105). -/
def State.gapExpiry (n : LineNo) (s : State) : State :=
  match (s.line n).rx with
  | .hunting => s
  | .assembling bs =>
    (s.setLine n { s.line n with rx := .hunting }).report (receiveReport .formatError true n bs)
  | .discarding => s

/-- RECEIVE_GAP_EXPIRY (R105) [log 4]. -/
def execReceiveGapExpiry (n : LineNo) (s : State) : Host.Outcome State Fault Refusal :=
  .next (if s.forming n && s.rxdIdle n then s.gapExpiry n else s)

/-- DISCARD_IDLE_END (R104): not while RESETTING is 1 (R117) [log 4]. -/
def execDiscardIdleEnd (n : LineNo) (s : State) : Host.Outcome State Fault Refusal :=
  .next
    (if s.forming n && s.rxdIdle n && !s.resetting && (s.line n).rx == .discarding then
      s.setLine n { s.line n with rx := .hunting }
    else s)

/-- RXD goes to mark: a transition to space that no sample has shown begins no character (R100). The detector and the
idle measure watch RXD as it is sampled, so the next sample restarts the mark run (R110) [log 25]. -/
def Line.toMark (l : Line) : Line := { l with phase := if l.phase = .armed then .none else l.phase }

/-- RXD goes to space: on an UP line a character may begin, at the first sample at space (R100). The same sample restarts
the space run (R110) [log 25]. -/
def Line.toSpace (l : Line) : Line :=
  { l with phase := if l.link = .up ∧ l.phase = .none then .armed else l.phase }

/-- The level of RXD of line `n` changes. -/
def State.flipRxd (n : LineNo) (s : State) : State :=
  { s with pins := { s.pins with rxdMark := s.pins.rxdMark.set n.val (!s.pins.rxdMark[n.val]) } }

/-- RXD_TRANSITION (R100, R110): the pin changes level always, and while the device operates the receiver follows; the
detector follows when it samples the new level. -/
def execRxdTransition (n : LineNo) (s : State) : Host.Outcome State Fault Refusal :=
  .next
    (if s.operating then
      (s.setLine n (if s.pins.rxdMark[n.val] then (s.line n).toSpace else (s.line n).toMark)).flipRxd n
    else s.flipRxd n)

end Sys2Proof.Machine
end

