-- ==== Sys2Proof/Machine/Deadlines.lean ====
section
/-!
DEFINITION. The tick and the expiries of the Timebase (chapter 7, R74, R63, R150).
An expiry that finds its interval stopped, or not yet at the end of its expiry tick, does not happen
(R7, R119).
-/

namespace Sys2Proof.Machine

/-- TICK (R118): the count advances by 1, and the next tick has the length TICK_DIVIDER gives now. -/
def execTick (s : State) : Host.Outcome State Fault Refusal :=
  .next
    (if s.operating then { s with tick := s.tick + 1, tickPhase := 0, tickLength := s.params.tickDivider }
    else s)

/-- A record's deadline of a kind is running and the boundary that ends its expiry tick has passed. -/
def State.deadlineOver (s : State) (r : RecordIdx) (k : DeadlineKind) : Bool :=
  match (s.record r).deadline with
  | none => false
  | some d => d.kind == k && s.passed d.expiry

/-- The station's consecutive failures increase by 1 (R53). -/
def State.countFailure (st : StationIdx) (s : State) : State :=
  s.setEntry st { s.entry st with failures := (s.entry st).failures + 1 }

/-- The station's consecutive failures have reached LOSS_THRESHOLD (R53). With a threshold of 1 this loses the station on
the expiry that follows a good frame, which the first row of R55 calls no loss [log 27]. -/
def State.thresholdReached (s : State) (st : StationIdx) : Bool :=
  decide (s.params.lossThreshold ≤ (s.entry st).failures)

/-- TIMEOUT: the record fails, its sequence fenced (R133). -/
def State.timeOut (r : RecordIdx) (s : State) : State := s.endRecords .timeout true [r]

/-- A retry: QUEUED at the head of its class, retries used increased, the sequence kept (R132). -/
def State.retry (r : RecordIdx) (s : State) : State :=
  (s.setRecord r { s.record r with retriesUsed := (s.record r).retriesUsed + 1 }).queueAtHead r

/-- A REPLY deadline expires (R131): failure counted, then loss, retry or TIMEOUT. -/
def State.replyExpiry (r : RecordIdx) (s : State) : State :=
  let st := (s.record r).station
  let s := s.countFailure st
  if s.thresholdReached st then s.loseStation st
  else if (s.record r).retriesUsed < (s.record r).retryBudget then (s.retry r).settle (lineOf st)
  else (s.timeOut r).settle (lineOf st)

/-- REPLY_DEADLINE_EXPIRY (R131). -/
def execReplyDeadlineExpiry (r : RecordIdx) (s : State) : Host.Outcome State Fault Refusal :=
  .next
    (if s.operating && (s.record r).state == .sent && s.deadlineOver r .reply then s.replyExpiry r else s)

/-- A SEGMENT deadline expires (R134): failure counted, then loss or TIMEOUT; never a retry. -/
def State.segmentExpiry (r : RecordIdx) (s : State) : State :=
  let st := (s.record r).station
  let s := s.countFailure st
  if s.thresholdReached st then s.loseStation st else (s.timeOut r).settle (lineOf st)

/-- SEGMENT_DEADLINE_EXPIRY (R134). -/
def execSegmentDeadlineExpiry (r : RecordIdx) (s : State) : Host.Outcome State Fault Refusal :=
  .next
    (if s.operating && (s.record r).state == .partly && s.deadlineOver r .segment then s.segmentExpiry r
    else s)

/-- HOLDOFF_DEADLINE_EXPIRY (R135): QUEUED at the head of its class, no failure counted. -/
def execHoldoffDeadlineExpiry (r : RecordIdx) (s : State) : Host.Outcome State Fault Refusal :=
  .next
    (if s.operating && (s.record r).state == .deferred && s.deadlineOver r .holdoff then
      (s.queueAtHead r).settle (s.record r).line
    else s)

/-- A fence place whose expiry tick has ended is emptied (R74). -/
def expiredPlace (s : State) (place : Option Tick) : Option Tick :=
  match place with
  | none => none
  | some e => if s.passed e then none else some e

/-- Some fence place of the station has reached its end. -/
def State.fenceOver (s : State) (st : StationIdx) : Bool :=
  (s.entry st).fence.toList.any fun p =>
    match p with
    | none => false
    | some e => s.passed e

/-- The fence places of a station whose expiry tick has ended are emptied in one event (R74). -/
def State.emptyFences (st : StationIdx) (s : State) : State :=
  s.setEntry st { s.entry st with fence := Vector.ofFn fun i => expiredPlace s (s.entry st).fence[i.val] }

/-- FENCE_EXPIRY (R74): the numbers are free from then on, and the dispatcher is signalled (R75). -/
def execFenceExpiry (st : StationIdx) (s : State) : Host.Outcome State Fault Refusal :=
  .next
    (if s.operating && s.fenceOver st then (s.emptyFences st).choose (lineOf st) else s)

/-- An ABSENT or LOST entry, not due already, whose probe due tick has ended [log 10]. -/
def State.probeOver (s : State) (st : StationIdx) : Bool :=
  (s.entry st).state.probed && !(s.entry st).probeDue && s.passed (s.entry st).probeTick

/-- PROBE_DUE (R63): the entry is due, and probed at once if its line is UP and OPEN. -/
def execProbeDue (st : StationIdx) (s : State) : Host.Outcome State Fault Refusal :=
  .next
    (if s.operating && s.probeOver st then
      ((s.setEntry st { s.entry st with probeDue := true }).probeSweep (lineOf st)).choose (lineOf st)
    else s)

/-- The idle timer is running and the boundary that ends its expiry tick has passed. -/
def State.idleOver (s : State) : Bool :=
  match s.idleTimer with
  | none => false
  | some e => s.passed e

/-- IDLE_TIMER_EXPIRY (R150): C is set and the timer stopped. A timer runs only while the queue is not
empty; were it empty, C would stay as it is (R149). -/
def execIdleTimerExpiry (s : State) : Host.Outcome State Fault Refusal :=
  .next
    (if s.operating && s.idleOver then
      { s with signalC := s.signalC || !s.completionQ.isEmpty, idleTimer := none }
    else s)

end Sys2Proof.Machine
end

