-- ==== Sys2Proof/Machine/Resets.lean ====
section
/-!
DEFINITION. RESETn, the supply and REFCLK (R197, R205).
-/

namespace Sys2Proof.Machine

/-- The port in the power-on state: no transaction; if CSn is low the port waits for it to rise (R197). -/
def portAtPowerOn (csnHigh : Bool) : Port :=
  { Port.idle with phase := if csnHigh then .closed else .waiting }

/-- The power-on state, under given conditions of supply, REFCLK and RESETn (R197). The levels of the input
pins are the outside world's and stay; the queue of commands and the count of free choices are the
model's own and stay. -/
def State.powerOn (p : Power) (s : State) : State :=
  { State.reset with
    pins := s.pins, power := p, port := portAtPowerOn s.pins.csnHigh
    choices := s.choices, pending := s.pending }

/-- RESETn asserted long enough: the power-on state at once, and held (R197). -/
def State.pinReset (s : State) : State := s.powerOn { s.power with resetHeld := true }

/-- PIN_RESET (R197, R205): at least 4 REFCLK periods act, none at all has no effect, and between them the
choice is free [log 7]. -/
def execPinReset (periods : Nat) (s : State) : Host.Outcome State Fault Refusal :=
  .next
    (if 4 ≤ periods then s.pinReset
    else if periods = 0 then s
    else
      let acts := Config.shortResetActs s.choices
      let s := { s with choices := s.choices + 1 }
      if acts then s.pinReset else s)

/-- RESETN_RELEASE (R197). -/
def execResetnRelease (s : State) : Host.Outcome State Fault Refusal :=
  .next (if s.power.resetHeld then { s with power := { s.power with resetHeld := false } } else s)

/-- POWER_ON_RESET (R197): supply applied. -/
def execPowerOnReset (s : State) : Host.Outcome State Fault Refusal :=
  .next (s.powerOn { s.power with supply := true })

/-- The condition a loss takes away (R197). -/
def Power.without (p : Power) (c : LossCause) : Power :=
  match c with
  | .refclk => { p with refclk := false }
  | .supply => { p with supply := false }

/-- REFCLK_LOSS (R197): the device holds its power-on state. -/
def execRefclkLoss (c : LossCause) (s : State) : Host.Outcome State Fault Refusal :=
  .next (s.powerOn (s.power.without c))

/-- REFCLK_RETURN (R197): the device operates from its power-on state once supply and RESETn also allow it. -/
def execRefclkReturn (s : State) : Host.Outcome State Fault Refusal :=
  .next (if s.power.refclk then s else { s with power := { s.power with refclk := true } })

end Sys2Proof.Machine
end

