-- ==== Sys2Proof/Machine/PortEvents.lean ====
section
/-!
DEFINITION. The events of the controller port itself: the fall of CSn, the arrival of any byte, the rise of
CSn whatever the transaction carries, and the two refusals of a transaction (R183 to R188).
-/

namespace Sys2Proof.Machine

/-! ### The fall of CSn (R183, R184) -/

/-- A transaction begins with the snapshot of the status byte (R184). -/
def State.openPort (s : State) : State :=
  { s with port := { Port.idle with phase := .opened, status := s.statusByte }
           pins := { s.pins with csnHigh := false } }

/-- CSn falls while the device does not operate: it ignores the transaction, and waits for CSn to rise
should it begin to operate meanwhile (R197). -/
def State.fallUnheard (s : State) : State :=
  { s with port := { Port.idle with phase := .waiting }, pins := { s.pins with csnHigh := false } }

/-- TRANSACTION_START (R184): CSn falls, if it was high. -/
def execTransactionStart (s : State) : Host.Outcome State Fault Refusal :=
  .next (if s.pins.csnHigh then (if s.operating then s.openPort else s.fallUnheard) else s)

/-! ### The arrival of a byte (R183, R185, R186) -/

/-- The decision an instruction takes when its last parameter byte has arrived (R185). -/
def takeDecision (o : Opcode) (p : Nat → Byte) (s : State) : State :=
  match o with
  | .readStatus => takeReadStatus s
  | .post => takePostAdmission (p 0) (p 1) (p 2) (p 3) s
  | .cancel => takeCancel (p 0) (p 1) s
  | .collect => takeCollect (p 0) (p 1) s
  | .collectNext => takeCollectNext s
  | .readRecord => takeReadRecord (p 0) (p 1) s
  | .readStation => takeReadStation (p 0) s
  | .readStationChanges => s
  | .enableStation => takeEnableStation (p 0) s
  | .disableStation => takeDisableStation (p 0) s
  | .ackAttention => takeAckAttention (p 0) s
  | .readLine => takeReadLine (p 0) s
  | .quiesceLine => takeQuiesceLine (p 0) s
  | .resumeLine => takeResumeLine (p 0) s
  | .lineReset => s
  | .setParameter => s
  | .readParameter => takeReadParameter (p 0) (p 1) s
  | .readErrors => takeReadErrors s
  | .clearErrors => s
  | .softReset => s

/-- How many bytes of a transaction the port stores: the opcode and the instruction's parameter bytes (R186). -/
def Port.storeRoom (p : Port) : Nat :=
  match p.bytes with
  | [] => 1
  | _ :: _ => match p.op with
    | none => 1
    | some o => 1 + o.paramCount

/-- A payload byte of a POST is stored at the next position of the reserved record, up to the announced
length (R29, R33); `k` bytes had arrived before it. -/
def State.storePayload (k : Nat) (b : Byte) (s : State) : State :=
  match s.port.reserved with
  | none => s
  | some r =>
    if 7 ≤ k ∧ k < s.port.postRequired then
      s.setRecord r { s.record r with payload := (s.record r).payload ++ [b] }
    else s

/-- The byte in progress has been clocked out in full (R183). -/
def State.clockOut (s : State) : State := { s with port := { s.port with clocked := s.port.clocked + 1 } }

/-- A byte after the parameter bytes: a response byte is clocked out with it, a POST stores it as payload,
and READ STATION CHANGES begins the response byte if it had not begun (R66, R186) [log 16]. -/
def State.excessByte (k : Nat) (b : Byte) (s : State) : State :=
  match s.port.op with
  | some .post => (s.storePayload k b).clockOut
  | some .readStationChanges => s.beginChangeByte.clockOut
  | _ => s.clockOut

/-- A byte arrives in an open transaction (R183): it is counted; the opcode and the parameter bytes are
stored, and the last of them takes the instruction's decision. -/
def State.byteArrives (b : Byte) (s : State) : State :=
  let k := s.port.count
  if s.port.bytes.length < s.port.storeRoom then
    let s := { s with port := { s.port with bytes := s.port.bytes ++ [b], count := k + 1 } }
    if s.port.ignored then s
    else match s.port.op with
      | none => s
      | some o => if s.port.bytes.length = 1 + o.paramCount then takeDecision o s.port.param s else s
  else
    let s := { s with port := { s.port with count := k + 1 } }
    if s.port.ignored then s else s.excessByte k b

/-- BYTE_ARRIVAL (R183): nothing is heard while no transaction is open. -/
def execByteArrival (b : Byte) (s : State) : Host.Outcome State Fault Refusal :=
  .next (if s.portOpen then s.byteArrives b else s)

/-! ### The rise of CSn (R183, R185, R187, R188) -/

/-- The transaction is short: its opcode names an instruction and not all its parameter bytes have arrived
(R187). -/
def Port.short (p : Port) : Bool :=
  match p.op with
  | none => false
  | some o => decide (p.bytes.length < 1 + o.paramCount)

/-- The effects an instruction has at the rise of CSn, all its parameter bytes having arrived (R185). -/
def takeRise (o : Opcode) (p : Nat → Byte) (s : State) : State :=
  match o with
  | .readStatus => s
  | .post => takePostCommit s
  | .cancel => s
  | .collect => takeCollection s
  | .collectNext => takeCollection s
  | .readRecord => s
  | .readStation => s
  | .readStationChanges => takeStationChangesClear s
  | .enableStation => s
  | .disableStation => s
  | .ackAttention => takeAcknowledge s
  | .readLine => takeFinishedClear s
  | .quiesceLine => s
  | .resumeLine => s
  | .lineReset => takeLineReset (p 0) s
  | .setParameter => s.writeParameter (p 0).toNat (p 1).toNat (wordOf (p 2) (p 3))
  | .readParameter => s
  | .readErrors => s
  | .clearErrors => takeClearErrors s
  | .softReset => takeSoftReset s

/-- What the rise of CSn does to the device before the port discards the transaction: nothing when no byte
has arrived or the transaction is ignored; COMMAND_ERROR for an unknown opcode and for a short
instruction; otherwise the instruction's own effect (R185, R187, R188, R194). -/
def State.riseEffect (s : State) : State :=
  if s.port.bytes.isEmpty || s.port.ignored then s
  else match s.port.op with
    | none => s.commandError
    | some o => if s.port.short then s.commandError else takeRise o s.port.param s

/-- TRANSACTION_END (R183): CSn rises, if it was low. -/
def execTransactionEnd (s : State) : Host.Outcome State Fault Refusal :=
  .next
    (if s.pins.csnHigh then s
    else if s.portOpen then s.riseEffect.closePort
    else s.closePort)

/-- UNKNOWN_OPCODE (R188): the opcode byte, if it has not arrived, and the rise of CSn. -/
def execUnknownOpcode (b : Byte) (s : State) : Host.Outcome State Fault Refusal :=
  .next (if (Opcode.ofByte b).isNone then s.riseThrough [b] State.commandError else s)

/-- The transaction ends short: parameter bytes are missing, or the required bytes of a POST that reserved
a record (R32, R187). -/
def Port.endsShort (p : Port) : Bool :=
  p.short || (p.op == some .post && p.reserved.isSome && decide (p.count < p.postRequired))

/-- The effect of a short end: COMMAND_ERROR, and for a POST that reserved a record its truncation (R32, R187). -/
def takeShort (s : State) : State := if s.port.short then s.commandError else takePostCommit s

/-- SHORT_INSTRUCTION (R187). -/
def execShortInstruction (s : State) : Host.Outcome State Fault Refusal :=
  .next (s.riseWhen s.port.endsShort takeShort)

end Sys2Proof.Machine
end

