-- ==== Sys2Proof/Machine/Clock.lean ====
section
/-!
DEFINITION. The device's own clock: which timed events are due at this instant, and one period of the
reference clock (R99, R100, R103, R105, R110, R118). Step uses them when no command waits [log 1].
-/

namespace Sys2Proof.Machine

/-! ### What one reference-clock period does -/

/-- The middle of a bit is reached with RXD at `mark` (R100): at the start bit, a return to mark is a
glitch; the data bits come least significant bit first; at the stop bit the character is complete. -/
def sampleBit (k : Nat) (data : Byte) (mark : Bool) (rate : Nat) : CharPhase :=
  if k = 0 then (if mark then .none else .bits 1 rate data)
  else if k ≤ 8 then .bits (k + 1) rate (if mark then data ||| (1#8 <<< (k - 1)) else data)
  else .complete data mark

/-- The character being sampled, one period on (R100). -/
def CharPhase.period (p : CharPhase) (mark : Bool) (rate : Nat) : CharPhase :=
  match p with
  | .none => .none
  | .armed => if mark then .none else .bits 0 (rate / 2) 0#8
  | .bits k left data => if left ≤ 1 then sampleBit k data mark rate else .bits k (left - 1) data
  | .complete d m => .complete d m

/-- The frame being sent, one period on: each character lasts 10 bit times, the next follows at once (R99, R103), so at
the instant between two characters the next one is already in progress for a cut of the frame (R95) [log 34]. -/
def TxPos.period (p : TxPos) (chars : Nat) : TxPos :=
  if p.elapsed + 1 < 10 * p.bitTime then { p with elapsed := p.elapsed + 1 }
  else if p.char + 1 < chars then { p with char := p.char + 1, elapsed := 0 }
  else { p with elapsed := p.elapsed + 1 }

/-- The transmitter, one period on. A STOPPING one sends no further character (R95). -/
def Tx.period : Tx → Tx
  | .idle => .idle
  | .sending f h p => .sending f h (p.period (f.header.length + f.payload.length + 3))
  | .stopping f p => .stopping f { p with elapsed := p.elapsed + 1 }

/-- The idle measure, one period on: RXD sampled at mark with no character begun counts (R105). From a transition to
space until the start bit's middle shows a glitch the measure stands still, with RXD back at mark or not, and each
sample at space starts the measure of a DISCARDING receiver afresh (R104) [log 14]. -/
def Line.quietPeriod (l : Line) (mark : Bool) : Nat :=
  if mark then (if l.phase = .none then l.quiet + 1 else l.quiet)
  else (if l.rx = .discarding then 0 else l.quiet)

/-- One line, one period on, RXD being sampled once: in DOWN the mark run, in UP the space run and the receiver
(R100, R110). A sample at the level that a run measures counts 1, the first one too, and a sample at the other level
makes it 0 [log 25]. -/
def Line.period (l : Line) (mark : Bool) (rate : Nat) : Line :=
  match l.link with
  | .off => { l with tx := l.tx.period }
  | .down => { l with tx := l.tx.period, markRun := if mark then l.markRun + 1 else 0 }
  | .up =>
    { l with tx := l.tx.period
             spaceRun := if mark then 0 else l.spaceRun + 1
             phase := l.phase.period mark rate
             quiet := l.quietPeriod mark }

/-- One period of the reference clock while the device operates (R118). -/
def State.clockPeriod (s : State) : State :=
  if s.operating then
    { s.mapLines (fun n l => l.period s.pins.rxdMark[n.val] s.params.lineRate[n.val]) with
      tickPhase := s.tickPhase + 1 }
  else s

/-! ### Which timed events are due -/

/-- A condition as a list of no or one event. -/
def dueIf (c : Bool) (i : Instr) : List Instr := if c then [i] else []

/-- The link change a line's runs call for (R112, R113): due from the sample that completes the run [log 25]. -/
def State.dueLink (s : State) (n : LineNo) : List Instr :=
  dueIf ((s.line n).link == .down && s.markReached n) (.linkUp n)
    ++ dueIf ((s.line n).link == .up && s.spaceReached n) (.linkDown n)

/-- The character a line has completed (R100). -/
def State.dueChar (s : State) (n : LineNo) : List Instr :=
  match (s.line n).phase with
  | .complete d true => dueIf (s.forming n) (.goodCharacter n d)
  | .complete _ false => dueIf (s.forming n) (.charError n)
  | .none => []
  | .armed => []
  | .bits _ _ _ => []

/-- The idle measure has exceeded 2 character times, and no start transition has been taken since (R104, R105)
[log 30]. -/
def State.dueIdle (s : State) (n : LineNo) : List Instr :=
  if s.forming n && s.rxdIdle n && decide (20 * s.params.lineRate[n.val] < (s.line n).quiet) then
    match (s.line n).rx with
    | .hunting => []
    | .assembling _ => [.receiveGapExpiry n]
    | .discarding => dueIf (!s.resetting) (.discardIdleEnd n)
  else []

/-- The character in progress of the transmitter has ended, and no other follows (R93, R95). -/
def State.dueTx (s : State) (n : LineNo) : List Instr :=
  match (s.line n).tx with
  | .idle => []
  | .sending _ _ p => dueIf (decide (10 * p.bitTime ≤ p.elapsed)) (.transmitEnd n)
  | .stopping _ p => dueIf (decide (10 * p.bitTime ≤ p.elapsed)) (.stoppingEnd n)

/-- The quiesce deadline of a line has ended (R166). -/
def State.dueQuiesce (s : State) (n : LineNo) : List Instr :=
  match (s.line n).quiesceDeadline with
  | none => []
  | some e => dueIf ((s.line n).service == .awaitingAcks && s.passed e) (.quiesceDeadlineExpiry n)

/-- The timed events of one line. -/
def State.dueLine (s : State) (n : LineNo) : List Instr :=
  s.dueLink n ++ s.dueChar n ++ s.dueIdle n ++ s.dueTx n ++ s.dueQuiesce n

/-- The deadline of one record has ended (R120). -/
def State.dueRecord (s : State) (r : RecordIdx) : List Instr :=
  dueIf ((s.record r).state == .sent && s.deadlineOver r .reply) (.replyDeadlineExpiry r)
    ++ dueIf ((s.record r).state == .partly && s.deadlineOver r .segment) (.segmentDeadlineExpiry r)
    ++ dueIf ((s.record r).state == .deferred && s.deadlineOver r .holdoff) (.holdoffDeadlineExpiry r)

/-- A fence or the probe due tick of one station has ended (R63, R74). -/
def State.dueStation (s : State) (st : StationIdx) : List Instr :=
  dueIf (s.fenceOver st) (.fenceExpiry st) ++ dueIf (s.probeOver st) (.probeDue st)

/-- All the events that the device's own clock causes at this instant. -/
def State.due (s : State) : List Instr :=
  if s.operating then
    dueIf (decide (s.tickLength ≤ s.tickPhase)) .tick
      ++ (List.finRange 8).flatMap s.dueLine
      ++ (List.finRange 48).flatMap s.dueRecord
      ++ (List.finRange 64).flatMap s.dueStation
      ++ dueIf s.idleOver .idleTimerExpiry
  else []

end Sys2Proof.Machine
end

