-- ==== Sys2Proof/Machine/Dispatch.lean ====
section
/-!
DEFINITION. One arm per command: a direct call of its meaning.
-/

namespace Sys2Proof.Machine

/-- The effect of a command on everything but the queue. -/
def exec (i : Instr) (s : State) : Host.Outcome State Fault Refusal :=
  match i with
  | .transactionStart => Sys2Proof.Machine.execTransactionStart s
  | .readStatus => Sys2Proof.Machine.execReadStatus s
  | .postAdmission h1 h2 h3 h4 => Sys2Proof.Machine.execPostAdmission h1 h2 h3 h4 s
  | .postCommit => Sys2Proof.Machine.execPostCommit s
  | .cancel index gen => Sys2Proof.Machine.execCancel index gen s
  | .collect index gen => Sys2Proof.Machine.execCollect index gen s
  | .collectNext => Sys2Proof.Machine.execCollectNext s
  | .collection => Sys2Proof.Machine.execCollection s
  | .readRecord index gen => Sys2Proof.Machine.execReadRecord index gen s
  | .readStation station => Sys2Proof.Machine.execReadStation station s
  | .readStationChanges => Sys2Proof.Machine.execReadStationChanges s
  | .stationChangesClear => Sys2Proof.Machine.execStationChangesClear s
  | .enableStation station => Sys2Proof.Machine.execEnableStation station s
  | .disableStation station => Sys2Proof.Machine.execDisableStation station s
  | .ackAttention station => Sys2Proof.Machine.execAckAttention station s
  | .attentionAcknowledge => Sys2Proof.Machine.execAttentionAcknowledge s
  | .readLine line => Sys2Proof.Machine.execReadLine line s
  | .quiesceFinishedClear => Sys2Proof.Machine.execQuiesceFinishedClear s
  | .quiesceLine line => Sys2Proof.Machine.execQuiesceLine line s
  | .resumeLine line => Sys2Proof.Machine.execResumeLine line s
  | .lineReset line => Sys2Proof.Machine.execLineReset line s
  | .lineResetAct line => Sys2Proof.Machine.execLineResetAct line s
  | .setParameter number index value => Sys2Proof.Machine.execSetParameter number index value s
  | .lineEnableOn line => Sys2Proof.Machine.execLineEnableOn line s
  | .lineEnableOff line => Sys2Proof.Machine.execLineEnableOff line s
  | .setLineRate line value => Sys2Proof.Machine.execSetLineRate line value s
  | .setWindowLimit line value => Sys2Proof.Machine.execSetWindowLimit line value s
  | .setTickDivider value => Sys2Proof.Machine.execSetTickDivider value s
  | .setUrgentReserve value => Sys2Proof.Machine.execSetUrgentReserve value s
  | .setCoalesceCount value => Sys2Proof.Machine.execSetCoalesceCount value s
  | .setNoteEnable value => Sys2Proof.Machine.execSetNoteEnable value s
  | .setErrorClass kind value => Sys2Proof.Machine.execSetErrorClass kind value s
  | .setFaultEnable kind value => Sys2Proof.Machine.execSetFaultEnable kind value s
  | .readParameter number index => Sys2Proof.Machine.execReadParameter number index s
  | .readErrors => Sys2Proof.Machine.execReadErrors s
  | .clearErrors => Sys2Proof.Machine.execClearErrors s
  | .softReset => Sys2Proof.Machine.execSoftReset s
  | .resetPeriodEnd => Sys2Proof.Machine.execResetPeriodEnd s
  | .unknownOpcode opcode => Sys2Proof.Machine.execUnknownOpcode opcode s
  | .shortInstruction => Sys2Proof.Machine.execShortInstruction s
  | .pinReset periods => Sys2Proof.Machine.execPinReset periods s
  | .resetnRelease => Sys2Proof.Machine.execResetnRelease s
  | .powerOnReset => Sys2Proof.Machine.execPowerOnReset s
  | .tick => Sys2Proof.Machine.execTick s
  | .linkUp line => Sys2Proof.Machine.execLinkUp line s
  | .linkDown line => Sys2Proof.Machine.execLinkDown line s
  | .reply line f => Sys2Proof.Machine.execReply line f s
  | .holdoff line f => Sys2Proof.Machine.execHoldoff line f s
  | .probeAnswer line f => Sys2Proof.Machine.execProbeAnswer line f s
  | .attention line f => Sys2Proof.Machine.execAttention line f s
  | .quiesceAck line f => Sys2Proof.Machine.execQuiesceAck line f s
  | .charError line => Sys2Proof.Machine.execCharError line s
  | .formatError line h1 h2 h3 h4 => Sys2Proof.Machine.execFormatError line h1 h2 h3 h4 s
  | .checkError line h1 h2 h3 h4 payload c1 c2 => Sys2Proof.Machine.execCheckError line h1 h2 h3 h4 payload c1 c2 s
  | .receiveGapExpiry line => Sys2Proof.Machine.execReceiveGapExpiry line s
  | .discardIdleEnd line => Sys2Proof.Machine.execDiscardIdleEnd line s
  | .transmitEnd line => Sys2Proof.Machine.execTransmitEnd line s
  | .stoppingEnd line => Sys2Proof.Machine.execStoppingEnd line s
  | .replyDeadlineExpiry record => Sys2Proof.Machine.execReplyDeadlineExpiry record s
  | .segmentDeadlineExpiry record => Sys2Proof.Machine.execSegmentDeadlineExpiry record s
  | .holdoffDeadlineExpiry record => Sys2Proof.Machine.execHoldoffDeadlineExpiry record s
  | .fenceExpiry station => Sys2Proof.Machine.execFenceExpiry station s
  | .probeDue station => Sys2Proof.Machine.execProbeDue station s
  | .idleTimerExpiry => Sys2Proof.Machine.execIdleTimerExpiry s
  | .quiesceDeadlineExpiry line => Sys2Proof.Machine.execQuiesceDeadlineExpiry line s
  | .byteArrival b => Sys2Proof.Machine.execByteArrival b s
  | .transactionEnd => Sys2Proof.Machine.execTransactionEnd s
  | .goodCharacter line b => Sys2Proof.Machine.execGoodCharacter line b s
  | .rxdTransition line => Sys2Proof.Machine.execRxdTransition line s
  | .refclkLoss cause => Sys2Proof.Machine.execRefclkLoss cause s
  | .refclkReturn => Sys2Proof.Machine.execRefclkReturn s

end Sys2Proof.Machine
end

