-- ==== Sys2Proof/Machine/Step.lean ====
section
/-!
DEFINITION. One step: the command at the front of the queue; on an empty queue, one of the events the
device's own clock causes at this instant, and if there is none, one period of the reference clock
[log 1].
-/

namespace Sys2Proof.Machine

/-- The event taken among several that are due: a free choice [log 2]. -/
def State.chosenDue (s : State) (c : Instr) (cs : List Instr) : Instr :=
  (c :: cs).getD (Config.eventChoice s.choices % (c :: cs).length) c

/-- The step on an empty queue. -/
def State.idleStep (s : State) : Host.Outcome State Fault Refusal :=
  match s.due with
  | [] => .next s.clockPeriod
  | [c] => exec c s
  | c :: d :: cs => exec (s.chosenDue c (d :: cs)) { s with choices := s.choices + 1 }

/-- One step of the device. -/
def step (s : State) : Host.Outcome State Fault Refusal :=
  match s.pending with
  | c :: cs => exec c { s with pending := cs }
  | [] => s.idleStep

/-- The state with the command a table word spells at the front of its queue. The table gives its rows no
bits, so no word spells one and the state is unchanged [log 18]. -/
def State.withFetchWord (s : State) (nbits w : Nat) : State :=
  match decodeTableWord nbits w with
  | some c => { s with pending := c :: s.pending }
  | none => s

end Sys2Proof.Machine
end

