-- ==== Sys2Proof/Safety.lean ====
section
/-!
DEFINITION. What a safe state of the device is: laws that the manual states of every state, in the terms
the statements use.
-/

namespace Sys2Proof.Machine

/-- The pending attention slot is occupied only while the presented slot is (R155). -/
def Entry.slotsOrdered (e : Entry) : Prop := e.pendingCause.isSome = true → e.presented.isSome = true

/-- Every station's attention slots are ordered (R155). -/
def State.SlotsOrdered (s : State) : Prop := ∀ st : StationIdx, (s.entry st).slotsOrdered

/-- No control queue holds more than 16 frames (R86). -/
def State.ControlBounded (s : State) : Prop :=
  ∀ n : LineNo, (s.line n).controlQ.length ≤ Config.controlCapacity

/-- Counters and further count stay at 255 or below (R172). -/
def FaultAccount.Bounded (a : FaultAccount) : Prop := (∀ k : Fin 11, a.counters[k.val] ≤ 255) ∧ a.further ≤ 255

/-- A deadline of the kind of the record's state in SENT, PARTIAL and DEFERRED, and none otherwise (R7). -/
def Record.deadlineFits (x : Record) : Prop :=
  match x.state with
  | .sent => ∃ e, x.deadline = some { kind := .reply, expiry := e }
  | .partly => ∃ e, x.deadline = some { kind := .segment, expiry := e }
  | .deferred => ∃ e, x.deadline = some { kind := .holdoff, expiry := e }
  | .free => x.deadline = none
  | .reserved => x.deadline = none
  | .queued => x.deadline = none
  | .transmitting => x.deadline = none
  | .done => x.deadline = none
  | .failed => x.deadline = none

/-- What a record carries in each state (R1, R4, R6, R7): its deadline; an outcome exactly when terminal, DONE
being the outcome of DONE alone; a sequence exactly while it holds one, which it does only after a
transmission; none sent yet while RESERVED. -/
structure Record.Shaped (x : Record) : Prop where
  deadline : x.deadlineFits
  outcome : x.outcome.isSome = x.state.terminal
  done : x.state = .done ↔ x.outcome = some .done
  seq : x.seq.isSome = x.holds
  sent : x.state.inFlight = true → 1 ≤ x.transmissions
  fresh : x.state = .reserved → x.transmissions = 0

/-- Every record carries what its state calls for. -/
def State.RecordsShaped (s : State) : Prop := ∀ r : RecordIdx, (s.record r).Shaped

/-- The dispatch queue of each line holds the line's QUEUED records, each exactly once, by their current handles,
and every URGENT one ahead of every NORMAL one (R83). -/
structure State.DispatchLawful (s : State) : Prop where
  queued : ∀ n : LineNo, ∀ h ∈ (s.line n).dispatchQ,
    h = s.handleOf h.index ∧ (s.record h.index).state = .queued ∧ (s.record h.index).line = n
  once : ∀ n : LineNo, (s.line n).dispatchQ.Nodup
  all : ∀ r : RecordIdx, (s.record r).state = .queued → s.handleOf r ∈ (s.line (s.record r).line).dispatchQ
  urgent : ∀ n : LineNo, ∀ h ∈ (s.line n).dispatchQ.dropWhile s.urgentHandle, s.urgentHandle h = false

/-- The completion queue holds exactly the terminal records, each once (R141). -/
structure State.CompletionLawful (s : State) : Prop where
  once : s.completionQ.Nodup
  all : ∀ r : RecordIdx, r ∈ s.completionQ ↔ (s.record r).state.terminal = true

/-- The record a POST has reserved is RESERVED, and no other record is (R29). -/
def State.ReservedLawful (s : State) : Prop :=
  ∀ r : RecordIdx, (s.record r).state = .reserved ↔ s.port.reserved = some r

/-- A live record's station is PRESENT and its line UP; a PRESENT station's line is UP; a line that is not UP has an
empty control queue (R15, R57, R58, R88). -/
structure State.LiveLawful (s : State) : Prop where
  station : ∀ r : RecordIdx, (s.record r).state.live = true → (s.entry (s.record r).station).state = .present
  link : ∀ st : StationIdx, (s.entry st).state = .present → (s.line (lineOf st)).link = .up
  control : ∀ n : LineNo, (s.line n).link ≠ .up → (s.line n).controlQ = []

/-- What the port holds of the Exchange Table it holds only in an open, served transaction of the instruction that
took it, whose parameter bytes have all arrived; a record named by a collection is terminal (R29, R143, R144, R183,
R197). Every byte that it holds has been counted (R183, R186). -/
structure State.PortLawful (s : State) : Prop where
  opened : s.port.phase = .opened → s.operating = true ∧ s.pins.csnHigh = false
  counted : s.port.bytes.length ≤ s.port.count
  held : s.port.reserved.isSome = true ∨ s.port.named.isSome = true →
    s.port.phase = .opened ∧ s.port.status.getLsbD 2 = false ∧ s.port.bytes.length ≤ s.port.count
  reserved : s.port.reserved.isSome = true → s.port.op = some .post ∧ s.port.bytes.length = 5
  named : s.port.named.isSome = true →
    (s.port.op = some .collect ∧ s.port.bytes.length = 3) ∨ (s.port.op = some .collectNext ∧ s.port.bytes.length = 1)
  terminal : ∀ r : RecordIdx, s.port.named = some r → (s.record r).state.terminal = true

/-- The laws of the Exchange Table, the queues and the port together: no one of them is kept by every step without
the others. -/
structure State.Lawful (s : State) : Prop where
  shaped : s.RecordsShaped
  dispatch : s.DispatchLawful
  completion : s.CompletionLawful
  reserved : s.ReservedLawful
  live : s.LiveLawful
  port : s.PortLawful

/-! ### Laws over the lawful states -/

/-- Every parameter that a number and an index name is in its range (R192, R204). -/
def Params.InRange (ps : Params) : Prop :=
  ∀ (p : Param) (i : Nat), i < p.indexCount → p.least ≤ ps.read p i ∧ ps.read p i ≤ p.greatest

/-- The counts of a record and its reply stay within their bounds (R3, R5). Before each dispatch the transmissions are
at most the retries and the holdoffs, and a station status stands in a DONE record alone. -/
structure Record.Counted (x : Record) : Prop where
  retries : x.retriesUsed ≤ x.retryBudget
  budget : x.retryBudget ≤ 3
  holdoffs : x.holdoffs ≤ 15
  transmissions : x.transmissions ≤ 1 + x.retriesUsed + x.holdoffs
  waiting : x.state = .reserved ∨ x.state = .queued ∨ x.state = .deferred → x.transmissions ≤ x.retriesUsed + x.holdoffs
  segments : x.segments ≤ 4
  reply : x.reply.length ≤ Config.maxReply
  status : x.status.isSome = true ↔ x.state = .done

/-- Every record's counts are within their bounds. -/
def State.RecordsCounted (s : State) : Prop := ∀ r : RecordIdx, (s.record r).Counted

/-- The sequences of a station: the records that hold one are at most its effective window and at most four (R51), no
two of them hold the same one, and none that is held is fenced (R71). -/
structure State.HeldLawful (s : State) : Prop where
  window : ∀ st : StationIdx, s.heldCount st ≤ (s.effectiveWindow st).getD 0
  four : ∀ st : StationIdx, s.heldCount st ≤ 4
  once : ∀ r i : RecordIdx, (s.record r).holds = true → (s.record i).holds = true →
    (s.record r).station = (s.record i).station → (s.record r).seq = (s.record i).seq → r = i
  unfenced : ∀ (r : RecordIdx) (q : SeqNo), (s.record r).holds = true → (s.record r).seq = some q →
    (s.entry (s.record r).station).fence[q.val] = none

/-- C and the idle timer against the completion queue: C is set while the queue gives cause (R149), and C is clear and the
timer stopped while the queue is empty (R149 to R152). -/
structure State.SignalLawful (s : State) : Prop where
  due : s.signalDue = true → s.signalC = true
  set : s.signalC = true → s.completionQ ≠ []
  timer : s.idleTimer.isSome = true → s.completionQ ≠ []

/-! ### The port as the statements speak of it -/

/-- A transaction is open and served (its status byte showed RESETTING at 0, R194), and the bytes that have arrived
are those of `bs` from the first on, and then any excess bytes, which are not stored (R186). -/
structure State.Serving (s : State) (bs : List Byte) : Prop where
  operating : s.operating = true
  opened : s.port.phase = .opened
  served : s.port.status.getLsbD 2 = false
  bytes : s.port.bytes = bs.take s.port.count

/-- Some byte of `bs` has not yet arrived. -/
def State.Awaiting (s : State) (bs : List Byte) : Prop := s.Serving bs ∧ s.port.count < bs.length

/-- The port when exactly the bytes of `bs` have arrived. -/
def State.arrived (bs : List Byte) (s : State) : State := { s with port := s.port.having bs }

/-- The state after an instruction that only reads: its bytes have arrived and its response is fixed (R185). -/
def State.answered (bs response : List Byte) (s : State) : State := (s.arrived bs).respond response

end Sys2Proof.Machine
end

