-- ==== Sys2Proof/Certificates/Slice0/Obligations.lean ====
section
/-!
DEFINITION. The statements for the provers. A statement of a command's result has as its conclusion that `exec`
answers a next state, which it gives whole: by the fields that change, or by the shared operations that the
command consists of, whose own statements say what each does.
-/

open Sys2Proof Sys2Proof.Machine

/-! ### The step -/

/-- R189: a command is taken whole, and the queue gives the order. -/
def Obligations.StepRunsFrontCommand : Prop :=
  ∀ (c : Instr) (cs : List Instr) (s : State), s.pending = c :: cs → step s = exec c { s with pending := cs }

/-- R6, R172, R173: every error of the manual is a report or an outcome, after which the device goes on, so no command
stops it. And the model's choice [log 1, log 2]: on an empty queue one of the events that the device's own clock causes
at this instant is taken, and if there is none one period of the reference clock passes. Only ticks, expiries, link
changes, sampled characters and ends of frames and of idle measures are such events. -/
def Obligations.EmptyQueueRunsClock : Prop :=
  (∀ (c : Instr) (s : State), ∃ t, exec c s = .next t) ∧
  (∀ s : State, s.pending = [] →
    (s.due = [] → step s = .next s.clockPeriod) ∧
    (∀ c, s.due = [c] → step s = exec c s) ∧
    (∀ c d cs, s.due = c :: d :: cs → ∃ e ∈ s.due, step s = exec e { s with choices := s.choices + 1 })) ∧
  (∀ (s : State) (c : Instr), c ∈ s.due →
    c = .tick ∨ c = .idleTimerExpiry ∨
    (∃ (n : LineNo) (b : Byte),
      c ∈ [Instr.linkUp n, .linkDown n, .goodCharacter n b, .charError n, .receiveGapExpiry n, .discardIdleEnd n,
        .transmitEnd n, .stoppingEnd n, .quiesceDeadlineExpiry n]) ∨
    (∃ r, c ∈ [Instr.replyDeadlineExpiry r, .segmentDeadlineExpiry r, .holdoffDeadlineExpiry r]) ∨
    ∃ st, c ∈ [Instr.fenceExpiry st, .probeDue st])

/-! ### Resets from outside (R22, R197, R205) -/

/-- R22: the Exchange Table after power-on and pin reset: every record FREE with generation 0 and no deadline, the free
count 48, FREE_LOW 0, the queues empty, the transmitters without a handle. -/
def Obligations.PowerOnTable : Prop :=
  ∀ (s : State) (c : Instr), (c = .powerOnReset ∨ ∃ p, 4 ≤ p ∧ c = .pinReset p) →
    ∃ t, exec c s = .next t ∧
      (∀ r, (t.record r).state = .free ∧ (t.record r).gen = 0 ∧ (t.record r).deadline = none) ∧
      t.freeCount = 48 ∧ (∀ u, u ≤ 16 → ¬ t.freeCount ≤ u) ∧ t.params.urgentReserve = 4 ∧ t.freeLow = false ∧
      (∀ n, (t.line n).dispatchQ = [] ∧ (t.line n).tx = .idle) ∧ t.completionQ = []

/-- R197, R205: an assertion of RESETn of 4 REFCLK periods or more gives the power-on state at once and whole; the
levels of the input pins [log 8] and the model's own fields stay. One shorter than 1 period has no effect; one of 1
to 3 periods has no effect or is a pin reset, whichever the free choice says [log 7].
The conditions under which the device operates: applying the supply gives the power-on state; a loss of
REFCLK or of the supply gives it too, and the device does not operate; a release of RESETn and a return of
REFCLK remove one hold each and change nothing else. -/
def Obligations.PinResetAndSupply : Prop :=
  (∀ (s : State) (p : Nat),
      (4 ≤ p →
        exec (.pinReset p) s = .next
          { State.reset with
            pins := s.pins, power := { s.power with resetHeld := true }
            port := { Port.idle with phase := if s.pins.csnHigh then .closed else .waiting }
            choices := s.choices, pending := s.pending }) ∧
      (p = 0 → exec (.pinReset p) s = .next s) ∧
      (0 < p ∧ p < 4 →
        exec (.pinReset p) s = .next { s with choices := s.choices + 1 } ∨
        exec (.pinReset p) s = exec (.pinReset 4) { s with choices := s.choices + 1 })) ∧
  (∀ s : State,
      exec .powerOnReset s = .next (s.powerOn { s.power with supply := true }) ∧
      exec (.refclkLoss .refclk) s = .next (s.powerOn { s.power with refclk := false }) ∧
      exec (.refclkLoss .supply) s = .next (s.powerOn { s.power with supply := false }) ∧
      (s.power.resetHeld = true →
        exec .resetnRelease s = .next { s with power := { s.power with resetHeld := false } }) ∧
      (s.power.refclk = false → exec .refclkReturn s = .next { s with power := { s.power with refclk := true } }) ∧
      (∀ p : Power, (s.powerOn p).operating = (p.supply && p.refclk && !p.resetHeld)))

/-- R183, R197: while the device does not operate, the port, the lines and the clock leave no trace: only the levels of
the pins, the wait for CSn and the conditions of operation themselves follow the outside, and no clock runs. Where no
transaction is open, because the device does not operate or the port waits for CSn to rise, a byte leaves no trace, and
the rise of CSn ends the wait and does nothing else. An edge to the level that CSn already has is none [log 3]. -/
def Obligations.NoOperationNoTrace : Prop :=
  (∀ (c : Instr) (s : State), s.operating = false →
    (∀ n, c ≠ .rxdTransition n) → c ≠ .transactionStart → c ≠ .transactionEnd → (∀ p, c ≠ .pinReset p) →
    c ≠ .resetnRelease → c ≠ .powerOnReset → (∀ l, c ≠ .refclkLoss l) → c ≠ .refclkReturn →
    exec c s = .next s) ∧
  (∀ s : State, s.operating = false → s.due = [] ∧ s.clockPeriod = s) ∧
  (∀ s : State, s.operating = false ∨ s.port.phase ≠ .opened →
    (∀ b, exec (.byteArrival b) s = .next s) ∧
    (s.pins.csnHigh = false →
      exec .transactionEnd s = .next { s with port := Port.idle, pins := { s.pins with csnHigh := true } })) ∧
  (∀ s : State,
    (s.pins.csnHigh = true → exec .transactionEnd s = .next s) ∧
    (s.pins.csnHigh = false → exec .transactionStart s = .next s))

/-! ### Transactions (R183 to R188, R194, R200) -/

/-- R200: the flags of the status byte, which SDO carries during the opcode byte. -/
def Obligations.StatusByteBits : Prop :=
  ∀ s : State,
    s.statusByte.getLsbD 7 = s.signalC ∧ s.statusByte.getLsbD 6 = s.sourceA ∧ s.statusByte.getLsbD 5 = s.sourceQ ∧
    s.statusByte.getLsbD 4 = s.sourceS ∧ s.statusByte.getLsbD 3 = s.flagF ∧ s.statusByte.getLsbD 2 = s.resetting ∧
    s.statusByte.getLsbD 1 = s.freeLow ∧ s.statusByte.getLsbD 0 = s.anyLineDown ∧
    (s.pins.csnHigh = true → s.operating = true →
      ∃ t, exec .transactionStart s = .next t ∧ t.port.count = 0 ∧ t.sdo = some s.statusByte)

/-- R29, R33, R66, R183, R186: a byte that takes no decision. The opcode byte and the parameter bytes are stored and
counted, when they are not the last or when the instruction is taken at the rise of CSn. A byte of a POST after its
turnaround is stored at the next payload position while the announced length is not reached. A byte of READ STATION
CHANGES begins the response byte with it, if that had not begun [log 16], and clocks it out. Any other byte after the
parameter bytes only clocks a response byte out. -/
def Obligations.ByteArrivalStores : Prop :=
  ∀ (b : Byte) (s : State),
    (s.Serving [] → s.port.count = 0 → b ≠ 0xA1#8 → b ≠ 0xA9#8 → b ≠ 0xD4#8 →
      exec (.byteArrival b) s = .next { s with port := { s.port with bytes := [b], count := 1 } }) ∧
    (∀ (o : Opcode) (ps : List Byte), s.Serving (o.code :: ps) → s.port.count = 1 + ps.length →
      (ps.length + 1 < o.paramCount ∨ (ps.length + 1 = o.paramCount ∧ (o = .lineReset ∨ o = .setParameter))) →
      exec (.byteArrival b) s = .next
        { s with port := { s.port with bytes := o.code :: (ps ++ [b]), count := s.port.count + 1 } }) ∧
    (∀ (o : Opcode) (ps : List Byte), s.Serving (o.code :: ps) → ps.length = o.paramCount →
      ps.length + 1 ≤ s.port.count → o ≠ .readStationChanges →
      (∀ r, o = .post → s.port.reserved = some r → 7 ≤ s.port.count →
        s.port.count < 7 + (ps.getD 3 0#8).toNat →
        exec (.byteArrival b) s = .next
          { s.setRecord r { s.record r with payload := (s.record r).payload ++ [b] } with
            port := { s.port with count := s.port.count + 1, clocked := s.port.clocked + 1 } }) ∧
      ((o ≠ .post ∨ s.port.reserved = none ∨ s.port.count < 7 ∨ 7 + (ps.getD 3 0#8).toNat ≤ s.port.count) →
        exec (.byteArrival b) s = .next
          { s with port := { s.port with count := s.port.count + 1, clocked := s.port.clocked + 1 } })) ∧
    (s.Serving [0xB2#8] → 1 ≤ s.port.count →
      (∀ n : LineNo, s.port.response.length = n.val → n.val ≤ s.port.clocked →
        ∃ c, exec (.byteArrival b) s = .next
            { s with
              port := { s.port with
                count := s.port.count + 1, clocked := s.port.clocked + 1, taken := true
                response := s.port.response ++ [c] } } ∧
          ∀ d : DropNo, c.getLsbD d.val = (s.entry (stationAt n d)).changed) ∧
      (s.port.clocked < s.port.response.length ∨ 8 ≤ s.port.response.length →
        exec (.byteArrival b) s = .next
          { s with port := { s.port with count := s.port.count + 1, clocked := s.port.clocked + 1 } }))

/-- R31, R66, R146, R158, R170, R185, R186, R188, R196: the command that the table names for an instruction is what the
event that takes the instruction does: the arrival of its last byte, or, for those taken at the rise of CSn, that rise
once all their bytes have arrived, with or without excess bytes. The rows for what the rise does to a POST, a
collection, READ STATION CHANGES, ACK ATTENTION and READ LINE are that rise, when the effect they name comes about [log
20]. -/
def Obligations.InstructionTaken : Prop :=
  (∀ (s : State) (a b c d : Byte),
      (s.Serving [] → s.port.count = 0 →
        exec (.byteArrival 0xA1#8) s = exec .readStatus s ∧ exec (.byteArrival 0xA9#8) s = exec .collectNext s ∧
        exec (.byteArrival 0xD4#8) s = exec .readErrors s) ∧
      (∀ f : Byte, s.Serving [f] → s.port.count = 1 →
        (f = 0xB1#8 → exec (.byteArrival a) s = exec (.readStation a) s) ∧
        (f = 0xB4#8 → exec (.byteArrival a) s = exec (.enableStation a) s) ∧
        (f = 0xB5#8 → exec (.byteArrival a) s = exec (.disableStation a) s) ∧
        (f = 0xB6#8 → exec (.byteArrival a) s = exec (.ackAttention a) s) ∧
        (f = 0xC1#8 → exec (.byteArrival a) s = exec (.readLine a) s) ∧
        (f = 0xC4#8 → exec (.byteArrival a) s = exec (.quiesceLine a) s) ∧
        (f = 0xC5#8 → exec (.byteArrival a) s = exec (.resumeLine a) s)) ∧
      (∀ f : Byte, s.Serving [f, a] → s.port.count = 2 →
        (f = 0xA6#8 → exec (.byteArrival b) s = exec (.cancel a b) s) ∧
        (f = 0xA8#8 → exec (.byteArrival b) s = exec (.collect a b) s) ∧
        (f = 0xAA#8 → exec (.byteArrival b) s = exec (.readRecord a b) s) ∧
        (f = 0xD2#8 → exec (.byteArrival b) s = exec (.readParameter a b) s)) ∧
      (s.Serving [0xA4#8, a, b, c] → s.port.count = 4 →
        exec (.byteArrival d) s = exec (.postAdmission a b c d) s)) ∧
  (∀ (s : State), s.pins.csnHigh = false →
      (∀ a : Byte, s.Serving [0xC6#8, a] → 2 ≤ s.port.count →
        exec .transactionEnd s = exec (.lineReset a) s) ∧
      (∀ (a b : Byte) (v : BitVec 16), s.Serving [0xD1#8, a, b, highByte v.toNat, lowByte v.toNat] → 5 ≤ s.port.count →
        exec .transactionEnd s = exec (.setParameter a b v) s) ∧
      (s.Serving [0xD5#8] → 1 ≤ s.port.count → exec .transactionEnd s = exec .clearErrors s) ∧
      (s.Serving [0xDE#8] → 1 ≤ s.port.count → exec .transactionEnd s = exec .softReset s) ∧
      (∀ a b c d : Byte, s.Serving [0xA4#8, a, b, c, d] → 5 ≤ s.port.count → s.port.reserved.isSome = true →
        exec .transactionEnd s = exec .postCommit s) ∧
      (∀ bs : List Byte, (bs = [0xA9#8] ∨ ∃ a b, bs = [0xA8#8, a, b]) → s.Serving bs → bs.length ≤ s.port.count →
        s.port.named.isSome = true → 5 ≤ s.port.clocked → exec .transactionEnd s = exec .collection s) ∧
      (s.Serving [0xB2#8] → 1 ≤ s.port.count → exec .transactionEnd s = exec .stationChangesClear s) ∧
      (∀ a : Byte, s.Serving [0xB6#8, a] → 2 ≤ s.port.count → s.port.taken = true →
        s.port.response.head? = some 0#8 → 2 ≤ s.port.clocked → s.port.ackVoid = false →
        exec .transactionEnd s = exec .attentionAcknowledge s) ∧
      (∀ a : Byte, s.Serving [0xC1#8, a] → 2 ≤ s.port.count → s.port.taken = true →
        (s.port.response.getD 1 0#8).getLsbD 7 = true → 2 ≤ s.port.clocked →
        exec .transactionEnd s = exec .quiesceFinishedClear s) ∧
      (∀ f : Byte, s.Serving [f] → 1 ≤ s.port.count → Opcode.ofByte f = none →
        exec .transactionEnd s = exec (.unknownOpcode f) s))

/-- R66, R183 to R185, R197: the fall of CSn opens a transaction with the snapshot of the status byte, and while the
device does not operate it opens none, and the port waits for CSn to rise. SDO is at high impedance while CSn is high
or the device does not operate. That it is so also while a port waits with CSn low and the device operates, where R183
has SDO driven while CSn is low, is the model's choice [log 17]. In each byte of a served transaction it carries the
status byte, then 0xFF until the parameter bytes are complete, then the response and 0xFF after it. A byte of READ
STATION CHANGES that has not begun shows its line's markers [log 16]. -/
def Obligations.ResponseOnSdo : Prop :=
  (∀ s : State, s.pins.csnHigh = true →
    (s.operating = true →
      exec .transactionStart s = .next
        { s with
          port := { Port.idle with phase := .opened, status := s.statusByte }
          pins := { s.pins with csnHigh := false } } ∧
      ({ s with
          port := { Port.idle with phase := .opened, status := s.statusByte }
          pins := { s.pins with csnHigh := false } } : State).sdo = some s.statusByte) ∧
    (s.operating = false →
      exec .transactionStart s = .next
        { s with port := { Port.idle with phase := .waiting }, pins := { s.pins with csnHigh := false } })) ∧
  (∀ s : State, s.operating = false ∨ s.port.phase ≠ .opened → s.sdo = none) ∧
  (∀ (s : State) (bs : List Byte), s.Serving bs →
    (s.port.count = 0 → s.sdo = some s.port.status) ∧
    (∀ o, s.port.op = some o → 0 < s.port.count → s.port.count < 1 + o.paramCount → s.sdo = some 0xFF#8) ∧
    (∀ o, s.port.op = some o → 1 + o.paramCount ≤ s.port.count → ∀ b, s.port.response[s.port.clocked]? = some b →
      s.sdo = some b) ∧
    (∀ o, s.port.op = some o → 1 + o.paramCount ≤ s.port.count → s.port.response.length ≤ s.port.clocked →
      o ≠ .readStationChanges ∨ 8 ≤ s.port.response.length → s.sdo = some 0xFF#8) ∧
    (∀ n : LineNo, s.port.op = some .readStationChanges → 1 ≤ s.port.count → s.port.response.length = n.val →
      n.val ≤ s.port.clocked →
      ∃ b, s.sdo = some b ∧ ∀ d : DropNo, b.getLsbD d.val = (s.entry (stationAt n d)).changed) ∧
    (s.port.op = none → 0 < s.port.count → s.sdo = some 0xFF#8))

/-- R190, R194: in a transaction whose status byte showed RESETTING at 1, no port command but READ STATUS changes
anything outside the port and the level of CSn, and SDO carries 0xFF after the status byte. READ STATUS is served in it
as in any other: its opcode byte takes it, its response is clocked out, and the rise of CSn does nothing else. -/
def Obligations.ResettingIgnoresInstructions : Prop :=
  ∀ (s : State), s.port.phase = .opened → s.port.status.getLsbD 2 = true →
    (∀ c ∈ [Instr.transactionStart, .transactionEnd, .collectNext, .collection, .postCommit, .readStationChanges,
        .stationChangesClear, .attentionAcknowledge, .quiesceFinishedClear, .readErrors, .clearErrors, .softReset,
        .shortInstruction],
      ∃ p q, exec c s = .next { s with port := p, pins := { s.pins with csnHigh := q } }) ∧
    (∀ (a b c d : Byte) (v : BitVec 16),
      ∀ i ∈ [Instr.postAdmission a b c d, .cancel a b, .collect a b, .readRecord a b, .readStation a,
          .enableStation a, .disableStation a, .ackAttention a, .readLine a, .quiesceLine a, .resumeLine a,
          .lineReset a, .setParameter a b v, .readParameter a b, .unknownOpcode a, .byteArrival a],
        ∃ p q, exec i s = .next { s with port := p, pins := { s.pins with csnHigh := q } }) ∧
    (∀ (n : LineNo) (a : Byte) (v : BitVec 16),
      ∀ i ∈ [Instr.lineEnableOn n, .lineEnableOff n, .setLineRate n v, .setWindowLimit n v, .setTickDivider v,
          .setUrgentReserve v, .setCoalesceCount v, .setNoteEnable v, .setErrorClass a v, .setFaultEnable a v],
        ∃ p q, exec i s = .next { s with port := p, pins := { s.pins with csnHigh := q } }) ∧
    (0 < s.port.count → s.port.op ≠ some .readStatus → s.operating = true → s.sdo = some 0xFF#8) ∧
    (s.operating = true →
      (s.port.count = 0 → s.sdo = some s.port.status) ∧
      (s.port.count = 0 → s.port.bytes = [] → exec (.byteArrival 0xA1#8) s = exec .readStatus s) ∧
      (s.port.bytes = [0xA1#8] → 1 ≤ s.port.count →
        (∀ b, exec (.byteArrival b) s = .next
          { s with port := { s.port with count := s.port.count + 1, clocked := s.port.clocked + 1 } }) ∧
        s.sdo = some (s.port.response.getD s.port.clocked 0xFF#8) ∧
        (s.pins.csnHigh = false → exec .transactionEnd s = .next s.closePort)))

/-- R187, R188: an unknown opcode is reported as COMMAND_ERROR with its byte at the rise of CSn, and so is, with its
opcode, an instruction whose parameter bytes have not all arrived; neither has another effect. A transaction
without a whole opcode byte leaves no trace. -/
def Obligations.CommandErrorsAtRise : Prop :=
  (∀ (s : State) (f : Byte), Opcode.ofByte f = none → s.Serving [f] →
    exec (.unknownOpcode f) s = .next (s.report (commandErrorOf f)).closePort) ∧
  (∀ (s : State) (o : Opcode) (ps : List Byte),
    s.Serving (o.code :: ps) → s.port.count = 1 + ps.length → ps.length < o.paramCount →
      exec .shortInstruction s = .next (s.report (commandErrorOf o.code)).closePort ∧
      (s.pins.csnHigh = false →
        exec .transactionEnd s = .next (s.report (commandErrorOf o.code)).closePort)) ∧
  (∀ s : State, s.Serving [] → s.pins.csnHigh = false → exec .transactionEnd s = .next s.closePort)

/-! ### Exchanges (chapters 1, 2, 8) -/

/-- R9, R27, R29: a POST that passes every check reserves the FREE record of lowest index and answers its handle. -/
def Obligations.PostAccepted : Prop :=
  ∀ (s : State) (h1 h2 h3 h4 : Byte) (h : PostHeader) (r : RecordIdx),
    s.Awaiting [0xA4#8, h1, h2, h3, h4] → parsePostHeader h1 h2 h3 h4 = some h →
    (s.line (lineOf h.station)).link = .up → (s.line (lineOf h.station)).service = .opened →
    (s.entry h.station).state = .present →
    (match h.priority with
      | .normal => s.params.urgentReserve < s.freeCount
      | .urgent => 0 < s.freeCount) →
    (s.record r).state = .free → (∀ i : RecordIdx, i < r → (s.record i).state ≠ .free) →
    exec (.postAdmission h1 h2 h3 h4) s = .next
      { s.setRecord r { Record.blank (s.record r).gen with
          state := .reserved, station := h.station, opClass := h.opClass, priority := h.priority
          deadlineClass := h.deadlineClass, retryBudget := h.retryBudget } with
        port := { s.port with
          bytes := [0xA4#8, h1, h2, h3, h4], count := 5, taken := true, reserved := some r
          response := [byteOf ((s.record r).gen.val * 16), byteOf r.val] } }

/-- R27, R28, R30: the first check that fails gives the admission code; a refusal changes nothing but the port, and
BAD_REQUEST alone is reported. -/
def Obligations.PostRefused : Prop :=
  ∀ (s : State) (h1 h2 h3 h4 : Byte), s.Awaiting [0xA4#8, h1, h2, h3, h4] →
    (parsePostHeader h1 h2 h3 h4 = none →
      exec (.postAdmission h1 h2 h3 h4) s = .next
        ((s.answered [0xA4#8, h1, h2, h3, h4] [1#8, 0xFF#8]).report (commandErrorOf 0xA4#8))) ∧
    (∀ h, parsePostHeader h1 h2 h3 h4 = some h →
      ((s.line (lineOf h.station)).link ≠ .up →
        exec (.postAdmission h1 h2 h3 h4) s = .next (s.answered [0xA4#8, h1, h2, h3, h4] [2#8, 0xFF#8])) ∧
      ((s.line (lineOf h.station)).link = .up → (s.line (lineOf h.station)).service ≠ .opened →
        exec (.postAdmission h1 h2 h3 h4) s = .next (s.answered [0xA4#8, h1, h2, h3, h4] [3#8, 0xFF#8])) ∧
      ((s.line (lineOf h.station)).link = .up → (s.line (lineOf h.station)).service = .opened →
        ((s.entry h.station).state = .absent →
          exec (.postAdmission h1 h2 h3 h4) s = .next (s.answered [0xA4#8, h1, h2, h3, h4] [4#8, 0xFF#8])) ∧
        ((s.entry h.station).state = .lost →
          exec (.postAdmission h1 h2 h3 h4) s = .next (s.answered [0xA4#8, h1, h2, h3, h4] [5#8, 0xFF#8])) ∧
        ((s.entry h.station).state = .disabled →
          exec (.postAdmission h1 h2 h3 h4) s = .next (s.answered [0xA4#8, h1, h2, h3, h4] [6#8, 0xFF#8])) ∧
        ((s.entry h.station).state = .present →
          (match h.priority with
            | .normal => s.freeCount ≤ s.params.urgentReserve
            | .urgent => s.freeCount = 0) →
          exec (.postAdmission h1 h2 h3 h4) s = .next (s.answered [0xA4#8, h1, h2, h3, h4] [7#8, 0xFF#8]))))

/-- R10, R31, R32: the rise of CSn on a POST that reserved a record: commit to QUEUED at the tail of its class, to
FAILED with LINE_DOWN or STATION_LOST, the link read first, or truncation. -/
def Obligations.PostSettles : Prop :=
  ∀ (s : State) (ps : List Byte) (r : RecordIdx),
    s.Serving (0xA4#8 :: ps) → ps.length = 4 → 5 ≤ s.port.count → s.port.reserved = some r →
    (7 + (ps.getD 3 0#8).toNat ≤ s.port.count →
      ((s.line (s.record r).line).link = .up → (s.entry (s.record r).station).state = .present →
        exec .postCommit s = .next ((s.queueAtTail r).choose (s.record r).line).closePort) ∧
      ((s.line (s.record r).line).link ≠ .up →
        exec .postCommit s = .next (s.endRecords .lineDown false [r]).closePort) ∧
      ((s.line (s.record r).line).link = .up → (s.entry (s.record r).station).state ≠ .present →
        exec .postCommit s = .next (s.endRecords .stationLost false [r]).closePort)) ∧
    (s.port.count < 7 + (ps.getD 3 0#8).toNat →
      exec .postCommit s = .next
        ((s.setRecord r (Record.blank ((s.record r).gen + 1))).report (commandErrorOf 0xA4#8)).closePort ∧
      exec .shortInstruction s = exec .postCommit s)

/-- R4, R14, R84: where a record enters its dispatch queue: a commit at the tail of its class, a retry or the end of a
holdoff wait at its head, in a queue whose URGENT records stand first. The record becomes QUEUED with its deadline
stopped, and keeps its request fields, its counts, its sequence and its reply; no other record or line changes. -/
def Obligations.PlaceInDispatchQueue : Prop :=
  ∀ (s : State) (r : RecordIdx) (us ns : List Handle),
    (s.line (s.record r).line).dispatchQ = us ++ ns →
    (∀ h ∈ us, (s.record h.index).priority = .urgent ∧ h.index ≠ r) →
    (∀ h ∈ ns, (s.record h.index).priority = .normal ∧ h.index ≠ r) →
    ((s.record r).priority = .urgent →
      ((s.queueAtTail r).line (s.record r).line).dispatchQ = us ++ s.handleOf r :: ns ∧
      ((s.queueAtHead r).line (s.record r).line).dispatchQ = s.handleOf r :: (us ++ ns)) ∧
    ((s.record r).priority = .normal →
      ((s.queueAtTail r).line (s.record r).line).dispatchQ = us ++ (ns ++ [s.handleOf r]) ∧
      ((s.queueAtHead r).line (s.record r).line).dispatchQ = us ++ s.handleOf r :: ns) ∧
    (∀ t, t = s.queueAtTail r ∨ t = s.queueAtHead r →
      t.record r = { s.record r with state := .queued, deadline := none } ∧
      (∀ i, i ≠ r → t.record i = s.record i) ∧
      t.line (s.record r).line = { s.line (s.record r).line with dispatchQ := (t.line (s.record r).line).dispatchQ } ∧
      (∀ m, m ≠ (s.record r).line → t.line m = s.line m) ∧
      t = { s with records := t.records, lines := t.lines })

/-- R36 to R42: a CANCEL that finds no live record changes nothing but the port's answer, or reports COMMAND_ERROR. One
that finds a live record ends it with CANCELLED, fences a held sequence and offers the ABANDON for it, and answers
CANCELLED; the line's service and arbiter follow. -/
def Obligations.Cancel : Prop :=
  ∀ (s : State) (a b : Byte), s.Awaiting [0xA6#8, a, b] →
    (s.resolve a b = .stale → exec (.cancel a b) s = .next (s.answered [0xA6#8, a, b] [3#8])) ∧
    (s.resolve a b = .outOfRange →
      exec (.cancel a b) s = .next ((s.arrived [0xA6#8, a, b]).report (commandErrorOf 0xA6#8))) ∧
    (∀ r, s.resolve a b = .current r →
      ((s.record r).state.terminal = true →
        exec (.cancel a b) s = .next (s.answered [0xA6#8, a, b] [2#8])) ∧
      ((s.record r).state.live = true → (s.record r).seq = none →
        exec (.cancel a b) s = .next
          ((((s.arrived [0xA6#8, a, b]).endRecords .cancelled true [r]).settle (s.record r).line).respond [1#8])) ∧
      (∀ q, (s.record r).state.live = true → (s.record r).seq = some q →
        exec (.cancel a b) s = .next
          (((((s.arrived [0xA6#8, a, b]).endRecords .cancelled true [r]).offer (s.record r).line
            (.abandon (dropOf (s.record r).station) q)).settle (s.record r).line).respond [1#8])))

/-- R15, R72, R73, R141, R149, R150: what an event that ends records does: each becomes terminal with the outcome,
keeps its request fields, counts and reply, loses its deadline, its place in the dispatch queue and its sequence, which
is fenced where the outcome's rule says so; they enter the completion queue in the order given. Of the entries only
fence places change, and the parameters, the tick, the port and the pins stay as they were. The records that a sweep
gives are the live ones of its condition, each once, in ascending index. -/
def Obligations.EndingRecords : Prop :=
  (∀ (s : State) (o : ExchOutcome) (f : Bool) (rs : List RecordIdx), rs.Nodup → rs ≠ [] →
    (∀ r ∈ rs, (s.endRecords o f rs).record r =
      { s.record r with
        state := if o = .done then .done else .failed
        outcome := some o, deadline := none, seq := none }) ∧
    (∀ r, r ∉ rs → (s.endRecords o f rs).record r = s.record r) ∧
    (s.endRecords o f rs).completionQ = s.completionQ ++ rs ∧
    (s.endRecords o f rs).signalC =
      (s.signalC || decide (s.params.coalesceCount ≤ (s.completionQ ++ rs).length)
        || rs.any (fun r => (s.record r).priority == .urgent)) ∧
    (s.endRecords o f rs).idleTimer =
      (if s.params.coalesceIdle = 0 then none else some (s.tick + BitVec.ofNat 32 s.params.coalesceIdle)) ∧
    (∀ n, (s.endRecords o f rs).line n =
      { s.line n with
        dispatchQ := (s.line n).dispatchQ.filter
          (fun h => !rs.any (fun r => r == h.index && (s.record r).line == n)) }) ∧
    (∀ st, ∀ q : SeqNo,
      ((s.endRecords o f rs).entry st).fence[q.val] =
        (if f = true ∧ ∃ r ∈ rs, (s.record r).station = st ∧ (s.record r).seq = some q then
          some (s.tick + BitVec.ofNat 32 s.params.quarantineInterval) else (s.entry st).fence[q.val])) ∧
    (∀ st, (s.endRecords o f rs).entry st =
      { s.entry st with fence := ((s.endRecords o f rs).entry st).fence }) ∧
    s.endRecords o f rs =
      { s with
        records := (s.endRecords o f rs).records, stations := (s.endRecords o f rs).stations
        lines := (s.endRecords o f rs).lines, completionQ := (s.endRecords o f rs).completionQ
        signalC := (s.endRecords o f rs).signalC, idleTimer := (s.endRecords o f rs).idleTimer }) ∧
  (∀ (s : State) (p : Record → Bool), (s.liveWhere p).Pairwise (· < ·) ∧
    ∀ r, r ∈ s.liveWhere p ↔ (s.record r).state.live = true ∧ p (s.record r) = true) ∧
  (∀ (s : State) (o : ExchOutcome) (f : Bool), s.endRecords o f [] = s) ∧
  (∀ x : RecState, x.live = true ↔
    x = .queued ∨ x = .transmitting ∨ x = .sent ∨ x = .partly ∨ x = .deferred)

/-- R143 to R145, R201: a collection's snapshot names the head of the queue, or the terminal record of the handle, and
fixes its response, whose summary and counts hold the bytes given; the other answers name none. -/
def Obligations.CollectionSnapshot : Prop :=
  (∀ s : State, s.Awaiting [0xA9#8] →
    (s.completionQ = [] → exec .collectNext s = .next (s.answered [0xA9#8] [4#8])) ∧
    (∀ r q, s.completionQ = r :: q →
      exec .collectNext s = .next
        { s with
          port := { s.port with
            bytes := [0xA9#8], count := 1, taken := true, named := some r
            response := 0#8 :: (summaryBytes r (s.record r) ++ countBytes (s.record r) ++ (s.record r).reply) } })) ∧
  (∀ (s : State) (a b : Byte), s.Awaiting [0xA8#8, a, b] →
    (s.resolve a b = .stale → exec (.collect a b) s = .next (s.answered [0xA8#8, a, b] [3#8])) ∧
    (s.resolve a b = .outOfRange →
      exec (.collect a b) s = .next ((s.arrived [0xA8#8, a, b]).report (commandErrorOf 0xA8#8))) ∧
    (∀ r, s.resolve a b = .current r →
      ((s.record r).state.live = true →
        exec (.collect a b) s = .next (s.answered [0xA8#8, a, b] [5#8])) ∧
      ((s.record r).state.terminal = true →
        exec (.collect a b) s = .next
          { s with
            port := { s.port with
              bytes := [0xA8#8, a, b], count := 3, taken := true, named := some r
              response :=
                0#8 :: (summaryBytes r (s.record r) ++ countBytes (s.record r) ++ (s.record r).reply) } }))) ∧
  (∀ (r : RecordIdx) (x : Record) (o : ExchOutcome), x.outcome = some o →
      summaryBytes r x =
        [byteOf r.val, byteOf x.gen.val,
          (match o with
            | .done => 0#8 | .timeout => 1#8 | .cancelled => 2#8 | .stationLost => 3#8 | .stationDisabled => 4#8
            | .lineDown => 5#8 | .lineReset => 6#8 | .heldOff => 7#8 | .segmentError => 8#8 | .replyOverrun => 9#8),
          x.status.getD 0#8] ∧
      countBytes x = [byteOf x.transmissions, byteOf x.retriesUsed, byteOf x.holdoffs, byteOf x.reply.length])

/-- R17, R146, R151: the rise of CSn on a collection whose summary was clocked out frees the record and re-evaluates C
and the idle timer by the three rows of R151; one that stopped short leaves the device as it is. That the timer goes on
in the second row also when the collection meets its expiry is the model's choice between R151 and R152 [log 33]. -/
def Obligations.CollectionFrees : Prop :=
  ∀ (s : State) (bs : List Byte) (r : RecordIdx), s.Serving bs → s.port.named = some r →
    (s.port.op = some .collect ∨ s.port.op = some .collectNext) →
    (5 ≤ s.port.clocked → ∃ t, exec .collection s = .next t ∧
      t.record r = Record.blank ((s.record r).gen + 1) ∧
      (∀ i, i ≠ r → t.record i = s.record i) ∧
      t.completionQ = s.completionQ.filter (fun q => q != r) ∧
      (t.completionQ = [] → t.signalC = false ∧ t.idleTimer = none) ∧
      (t.completionQ ≠ [] →
        (s.params.coalesceCount ≤ t.completionQ.length ∨ ∃ q ∈ t.completionQ, (s.record q).priority = .urgent) →
        t.signalC = s.signalC ∧ t.idleTimer = s.idleTimer) ∧
      (t.completionQ ≠ [] → t.completionQ.length < s.params.coalesceCount →
        (∀ q ∈ t.completionQ, (s.record q).priority = .normal) →
        t.signalC = false ∧
        t.idleTimer =
          if s.params.coalesceIdle = 0 then none else some (s.tick + BitVec.ofNat 32 s.params.coalesceIdle)) ∧
      t.stations = s.stations ∧ t.lines = s.lines ∧ t.faults = s.faults ∧ t.params = s.params ∧ t.tick = s.tick) ∧
    (s.port.clocked < 5 → s.port.short = false →
      s.pins.csnHigh = false → exec .transactionEnd s = .next s.closePort)

/-- R18, R148, R198, R201: how a handle resolves, and READ RECORD, which answers the record's fields and changes
nothing, with the codes of the record states and deadline kinds, and 0xFF for the outcome of a record that has none.
The ticks remaining of a running deadline are the expiry tick less the present tick, and 0 once the boundary that ends
the expiry tick has passed. The manual names no value for that instant, so the 0 is the model's choice [log 11]. -/
def Obligations.ReadRecordReports : Prop :=
  (∀ (s : State) (a b : Byte),
    (47 < a.toNat ∨ 15 < b.toNat → s.resolve a b = .outOfRange) ∧
    (∀ r : RecordIdx, a.toNat = r.val → b.toNat ≤ 15 →
      ((s.record r).gen.val = b.toNat → (s.record r).state ≠ .free → s.resolve a b = .current r) ∧
      ((s.record r).gen.val ≠ b.toNat ∨ (s.record r).state = .free → s.resolve a b = .stale))) ∧
  ([RecState.free, .reserved, .queued, .transmitting, .sent, .partly, .deferred, .done, .failed].map RecState.code =
    [0#8, 1#8, 2#8, 3#8, 4#8, 5#8, 6#8, 7#8, 8#8]) ∧
  ([DeadlineKind.reply, .segment, .holdoff].map DeadlineKind.code = [1#8, 2#8, 3#8]) ∧
  (∀ (r : RecordIdx) (x : Record),
    (x.outcome = none → summaryBytes r x = [byteOf r.val, byteOf x.gen.val, 0xFF#8, x.status.getD 0#8]) ∧
    countBytes x = [byteOf x.transmissions, byteOf x.retriesUsed, byteOf x.holdoffs, byteOf x.reply.length]) ∧
  (∀ (s : State) (e : Tick),
    (s.passed e = true → s.remaining e = 0) ∧ (s.passed e = false → s.remaining e = (e - s.tick).toNat)) ∧
  (∀ (s : State) (a b : Byte), s.Awaiting [0xAA#8, a, b] →
    (s.resolve a b = .outOfRange →
      exec (.readRecord a b) s = .next ((s.arrived [0xAA#8, a, b]).report (commandErrorOf 0xAA#8))) ∧
    (s.resolve a b = .stale → exec (.readRecord a b) s = .next (s.answered [0xAA#8, a, b] [3#8])) ∧
    (∀ r, s.resolve a b = .current r →
      exec (.readRecord a b) s = .next
        (s.answered [0xAA#8, a, b]
          (0#8 :: (s.record r).state.code :: (summaryBytes r (s.record r) ++ countBytes (s.record r) ++
            [byteOf (s.record r).station.val,
              byteOf ((if (s.record r).priority = .urgent then 128 else 0) + (s.record r).opClass.val),
              byteOf ((s.record r).retryBudget * 16 + (s.record r).deadlineClass.val),
              byteOf (s.record r).payload.length,
              ((s.record r).seq.map (fun q => byteOf q.val)).getD 0xFF#8,
              ((s.record r).deadline.map (fun d => d.kind.code)).getD 0xFF#8,
              ((s.record r).deadline.map (fun d => highByte (s.remaining d.expiry))).getD 0#8,
              ((s.record r).deadline.map (fun d => lowByte (s.remaining d.expiry))).getD 0#8,
              byteOf (s.record r).segments] ++ (s.record r).reply)))))

/-! ### Stations (chapters 3 and 9) -/

/-- R46, R191, R201: READ STATION answers thirteen bytes and changes nothing; a station byte out of range is
COMMAND_ERROR. -/
def Obligations.ReadStationReports : Prop :=
  ∀ (s : State) (b : Byte), s.Awaiting [0xB1#8, b] →
    (64 ≤ b.toNat →
      exec (.readStation b) s = .next ((s.arrived [0xB1#8, b]).report (commandErrorOf 0xB1#8))) ∧
    (∀ st : StationIdx, b.toNat = st.val → ∃ b1 rest, exec (.readStation b) s = .next (s.answered [0xB1#8, b] (b1 :: rest)) ∧
      b1.toNat % 4 = (match (s.entry st).state with | .disabled => 0 | .absent => 1 | .present => 2 | .lost => 3) ∧
      b1.getLsbD 7 = (s.entry st).identity.isSome ∧ b1.getLsbD 6 = (s.entry st).replaced ∧
      b1.getLsbD 5 = (s.entry st).changed ∧ b1.getLsbD 4 = (s.entry st).ackMark ∧
      b1.getLsbD 3 = (s.entry st).presented.isSome ∧ b1.getLsbD 2 = (s.entry st).pendingCause.isSome ∧
      rest =
        [((s.entry st).identity.map (fun i => highByte i.classCode.toNat)).getD 0#8,
          ((s.entry st).identity.map (fun i => lowByte i.classCode.toNat)).getD 0#8,
          ((s.entry st).identity.map (fun i => i.revision)).getD 0#8,
          byteOf ((s.entry st).window.getD 0),
          byteOf (((s.entry st).window.map (fun w => min w s.params.windowLimit[(lineOf st).val])).getD 0),
          byteOf (s.entry st).failures, byteOf (s.entry st).cursor.val,
          byteOf (s.records.toList.countP (fun x => x.holds && x.station == st)),
          byteOf (s.records.toList.countP (fun x => x.state.live && x.station == st)),
          byteOf ((s.entry st).fence.toList.countP Option.isSome),
          (s.entry st).presented.getD 0#8, (s.entry st).pendingCause.getD 0#8])

/-- R66: a response byte of READ STATION CHANGES is a snapshot of its line's markers as it begins, bit d for drop d;
the rise of CSn clears the markers that bytes clocked out in full reported as set, and no other. -/
def Obligations.StationChanges : Prop :=
  (∀ (s : State) (n : LineNo), s.Serving [0xB2#8] → s.port.response.length = n.val → s.port.clocked = n.val →
    ∃ b, exec .readStationChanges s = .next
        { s with
          port := { s.port with
            bytes := [0xB2#8], count := max s.port.count 1, taken := true, response := s.port.response ++ [b] } } ∧
      ∀ d : DropNo, b.getLsbD d.val = (s.entry (stationAt n d)).changed) ∧
  (∀ s : State, s.Serving [0xB2#8] → 1 ≤ s.port.count →
    ∃ t, exec .stationChangesClear s = .next t ∧
      (∀ (n : LineNo) (d : DropNo),
        t.entry (stationAt n d) =
          { s.entry (stationAt n d) with
            changed := (s.entry (stationAt n d)).changed &&
              !(decide (n.val < s.port.clocked) && decide (n.val < s.port.response.length)
                && (s.port.response.getD n.val 0#8).getLsbD d.val) }) ∧
      t.records = s.records ∧ t.lines = s.lines ∧ t.faults = s.faults ∧ t.params = s.params ∧
      t.completionQ = s.completionQ ∧ t.signalC = s.signalC ∧ t.port = Port.idle)

/-- R15, R59 to R61: ENABLE STATION of a DISABLED entry makes it ABSENT, clears identity, window and replaced flag,
keeps the marker, the ack mark, cursor and fences, and makes it due; of any other entry it changes nothing. DISABLE
STATION ends the station's live records with STATION_DISABLED and fences their sequences, empties the attention slots,
clears the failures, and offers an ABANDON for each record that was TRANSMITTING, SENT, PARTIAL or DEFERRED, in
ascending index. That a record that was QUEUED holding a sequence gets none is R60's word against the table of R86, and
R15 lets the chapter of the sweep's cause decide [log 9]. -/
def Obligations.EnableAndDisableStation : Prop :=
  (∀ (s : State) (b : Byte), s.Awaiting [0xB4#8, b] →
      (64 ≤ b.toNat →
        exec (.enableStation b) s = .next ((s.arrived [0xB4#8, b]).report (commandErrorOf 0xB4#8))) ∧
      (∀ st : StationIdx, b.toNat = st.val →
        ((s.entry st).state ≠ .disabled → exec (.enableStation b) s = .next (s.answered [0xB4#8, b] [7#8])) ∧
        ((s.entry st).state = .disabled →
          exec (.enableStation b) s = .next
            (((((s.arrived [0xB4#8, b]).setEntry st
              { s.entry st with
                state := .absent, identity := none, window := none, replaced := false, failures := 0
                probeTick := s.tick, probeDue := true }).probeSweep (lineOf st)).choose (lineOf st)).respond [0#8])))) ∧
  (∀ (s : State) (b : Byte), s.Awaiting [0xB5#8, b] →
      (64 ≤ b.toNat →
        exec (.disableStation b) s = .next ((s.arrived [0xB5#8, b]).report (commandErrorOf 0xB5#8))) ∧
      (∀ st : StationIdx, b.toNat = st.val →
        ((s.entry st).state = .disabled → exec (.disableStation b) s = .next (s.answered [0xB5#8, b] [6#8])) ∧
        ((s.entry st).state ≠ .disabled →
          ∀ rs u, rs = s.liveWhere (fun x => x.station == st) →
            u = (s.arrived [0xB5#8, b]).endRecords .stationDisabled true rs →
            exec (.disableStation b) s = .next
              ((((u.setEntry st
                { u.entry st with
                  state := .disabled, presented := none, pendingCause := none, failures := 0, probeDue := false }).offerAll
                  (lineOf st)
                  ((rs.filter (fun r => (s.record r).state.inFlight)).filterMap
                    (fun r => (s.record r).seq.map (fun q => ControlFrame.abandon (dropOf st) q)))).settle
                  (lineOf st)).respond [0#8]))))

/-- R155, R158: ACK ATTENTION answers the presented cause; the rise of CSn, once both response bytes were clocked out
and no line reset of the station's line has acted, empties the presented slot and promotes the pending cause; short of
that it changes nothing. -/
def Obligations.AckAttention : Prop :=
  (∀ (s : State) (b : Byte), s.Awaiting [0xB6#8, b] →
    (64 ≤ b.toNat →
      exec (.ackAttention b) s = .next ((s.arrived [0xB6#8, b]).report (commandErrorOf 0xB6#8))) ∧
    (∀ st : StationIdx, b.toNat = st.val →
      (∀ c, (s.entry st).presented = some c →
        exec (.ackAttention b) s = .next (s.answered [0xB6#8, b] [0#8, c])) ∧
      ((s.entry st).presented = none →
        exec (.ackAttention b) s = .next (s.answered [0xB6#8, b] [8#8, 0xFF#8])))) ∧
  (∀ (s : State) (b c : Byte) (st : StationIdx), s.Serving [0xB6#8, b] → 2 ≤ s.port.count → b.toNat = st.val →
    s.port.taken = true → s.port.response = [0#8, c] →
    (2 ≤ s.port.clocked → s.port.ackVoid = false →
      exec .attentionAcknowledge s = .next
        (s.setEntry st { s.entry st with presented := (s.entry st).pendingCause, pendingCause := none }).closePort) ∧
    ((s.port.clocked < 2 ∨ s.port.ackVoid = true) → s.pins.csnHigh = false →
      exec .transactionEnd s = .next s.closePort))

/-! ### Lines in service (chapter 9) -/

/-- R170, R201: READ LINE answers five bytes; the rise of CSn clears the quiesce-finished marker if the snapshot
reported it set and its byte was clocked out, and changes nothing else. -/
def Obligations.ReadLineReports : Prop :=
  (∀ (s : State) (b : Byte), s.Awaiting [0xC1#8, b] →
    (8 ≤ b.toNat → exec (.readLine b) s = .next ((s.arrived [0xC1#8, b]).report (commandErrorOf 0xC1#8))) ∧
    (∀ n : LineNo, b.toNat = n.val → ∃ acks : Byte,
      exec (.readLine b) s = .next
        (s.answered [0xC1#8, b]
          [byteOf ((match (s.line n).link with | .off => 0 | .down => 1 | .up => 2) * 16 +
              (match (s.line n).service with | .opened => 0 | .draining => 1 | .awaitingAcks => 2 | .quiesced => 3)),
            byteOf ((if (s.line n).quiesceFinished then 128 else 0) +
              (match (s.line n).quiesceOutcome with | none => 0 | some .allAcked => 1 | some .deadline => 2)),
            acks,
            byteOf (s.records.toList.countP (fun x => x.state == .queued && x.line == n)),
            byteOf (s.records.toList.countP (fun x => x.state.live && x.line == n))]) ∧
      ∀ d : DropNo, acks.getLsbD d.val = (s.entry (stationAt n d)).ackMark)) ∧
  (∀ (s : State) (b : Byte) (n : LineNo), s.Serving [0xC1#8, b] → 2 ≤ s.port.count → b.toNat = n.val →
    s.port.taken = true →
    ((s.port.response.getD 1 0#8).getLsbD 7 = true → 2 ≤ s.port.clocked →
      exec .quiesceFinishedClear s = .next (s.setLine n { s.line n with quiesceFinished := false }).closePort) ∧
    (((s.port.response.getD 1 0#8).getLsbD 7 = false ∨ s.port.clocked < 2) → s.pins.csnHigh = false →
      exec .transactionEnd s = .next s.closePort))

/-- R119, R161, R166, R169: QUIESCE LINE takes an OPEN line to DRAINING and tests the drain at once; RESUME LINE
returns any other line to OPEN, queues the due PROBEs and lets the arbiter choose; each answers otherwise without
effect, and a line byte out of range is COMMAND_ERROR. The quiesce deadline of a line in AWAITING_ACKS ends the wait
with DEADLINE once the boundary that ends its expiry tick has passed, and not before; from then on it is due. -/
def Obligations.QuiesceAndResume : Prop :=
  (∀ (s : State) (b : Byte), 8 ≤ b.toNat →
      (s.Awaiting [0xC4#8, b] →
        exec (.quiesceLine b) s = .next ((s.arrived [0xC4#8, b]).report (commandErrorOf 0xC4#8))) ∧
      (s.Awaiting [0xC5#8, b] →
        exec (.resumeLine b) s = .next ((s.arrived [0xC5#8, b]).report (commandErrorOf 0xC5#8)))) ∧
  (∀ (s : State) (b : Byte) (n : LineNo), b.toNat = n.val →
      (s.Awaiting [0xC4#8, b] →
        ((s.line n).service ≠ .opened → exec (.quiesceLine b) s = .next (s.answered [0xC4#8, b] [9#8])) ∧
        ((s.line n).service = .opened →
          exec (.quiesceLine b) s = .next
            ((((s.arrived [0xC4#8, b]).setLine n
              { s.line n with service := .draining, quiesceOutcome := none }).settle n).respond [0#8]))) ∧
      (s.Awaiting [0xC5#8, b] →
        ((s.line n).service = .opened → exec (.resumeLine b) s = .next (s.answered [0xC5#8, b] [10#8])) ∧
        ((s.line n).service ≠ .opened →
          exec (.resumeLine b) s = .next
            (((((s.arrived [0xC5#8, b]).setLine n
              { s.line n with service := .opened, quiesceDeadline := none }).probeSweep n).choose n).respond [0#8])))) ∧
  (∀ (s : State) (n : LineNo) (e : Tick), s.operating = true → (s.line n).quiesceDeadline = some e →
      ((s.line n).service = .awaitingAcks → s.passed e = true →
        exec (.quiesceDeadlineExpiry n) s = .next (s.setLine n { s.line n with
          service := .quiesced, quiesceDeadline := none, quiesceOutcome := some .deadline, quiesceFinished := true })) ∧
      (s.passed e = false → exec (.quiesceDeadlineExpiry n) s = .next s)) ∧
  (∀ (s : State) (n : LineNo), s.operating = true →
    (.quiesceDeadlineExpiry n ∈ s.due ↔
      (s.line n).service = .awaitingAcks ∧ ∃ e, (s.line n).quiesceDeadline = some e ∧ s.passed e = true))

/-- R87, R91, R162, R163, R165, R167: what the line service's tests do at the end of an event, before the arbiter's
choice. A drained line clears its marks and offers QUIESCE to its PRESENT stations in ascending drop order: those that
find room join the control queue, each of the others is reported as CONTROL_DROPPED, and nothing else changes. And the
return to DRAINING of a line that awaits acknowledgements or is QUIESCED. -/
def Obligations.LineServiceTests : Prop :=
  ∀ (s : State) (n : LineNo),
    s.settle n = (s.serviceTests n).choose n ∧
    ((s.line n).service = .awaitingAcks ∨ (s.line n).service = .quiesced →
      s.returnToDraining n = s.setLine n { s.line n with service := .draining, quiesceDeadline := none }) ∧
    ((s.line n).service = .opened ∨ (s.line n).service = .draining → s.returnToDraining n = s) ∧
    ((s.line n).service = .opened ∨ (s.line n).service = .quiesced → s.serviceTests n = s) ∧
    ((s.line n).service = .draining →
      (∃ r : RecordIdx, (s.record r).state.inFlight = true ∧ (s.record r).line = n) → s.serviceTests n = s) ∧
    ((s.line n).service = .draining →
      (∀ r : RecordIdx, (s.record r).state.inFlight = true → (s.record r).line ≠ n) →
      ∀ (t : State) (ds : List DropNo), t = s.serviceTests n →
        ds = (List.finRange 8).filter (fun d => (s.entry (stationAt n d)).state == .present) →
      (ds = [] →
        t.line n =
          { s.line n with
            service := .quiesced, quiesceDeadline := none, quiesceOutcome := some .allAcked
            quiesceFinished := true } ∧
        t.faults = s.faults) ∧
      (ds ≠ [] → (s.line n).link = .up →
        t.line n =
          { s.line n with
            service := .awaitingAcks
            quiesceDeadline := some (s.tick + BitVec.ofNat 32 s.params.quiesceDeadline)
            controlQ := (s.line n).controlQ ++ (ds.take (16 - (s.line n).controlQ.length)).map .quiesce } ∧
        t.faults = ((ds.drop (16 - (s.line n).controlQ.length)).foldl
          (fun u d => u.report
            { kind := .controlDropped, line := some n, drop := some d, seq := none
              header := some (ControlFrame.quiesce d).frame.header, opcode := none }) s).faults) ∧
      (ds ≠ [] → (s.line n).link ≠ .up →
        t.line n =
          { s.line n with
            service := .awaitingAcks
            quiesceDeadline := some (s.tick + BitVec.ofNat 32 s.params.quiesceDeadline) } ∧
        t.faults = s.faults) ∧
      (∀ d, t.entry (stationAt n d) = { s.entry (stationAt n d) with ackMark := false }) ∧
      (∀ st, lineOf st ≠ n → t.entry st = s.entry st) ∧
      (∀ m, m ≠ n → t.line m = s.line m) ∧
      t = { s with stations := t.stations, lines := t.lines, faults := t.faults }) ∧
    ((s.line n).service = .awaitingAcks →
      ((∀ d, (s.entry (stationAt n d)).state = .present → (s.entry (stationAt n d)).ackMark = true) →
        s.serviceTests n = s.setLine n { s.line n with
          service := .quiesced, quiesceDeadline := none, quiesceOutcome := some .allAcked, quiesceFinished := true }) ∧
      ((∃ d, (s.entry (stationAt n d)).state = .present ∧ (s.entry (stationAt n d)).ackMark = false) →
        s.serviceTests n = s))

/-! ### Line reset and soft reset (R24, R68, R69, R97, R195, R196) -/

/-- R196, R97: LINE RESET acts at once on an IDLE transmitter and otherwise waits; a line byte out of range is
COMMAND_ERROR. In the event in which the transmitter becomes IDLE the waiting reset acts. -/
def Obligations.LineResetTaken : Prop :=
  (∀ (s : State) (b : Byte), s.Serving [0xC6#8, b] →
    (8 ≤ b.toNat → exec (.lineReset b) s = .next (s.report (commandErrorOf 0xC6#8)).closePort) ∧
    (∀ n : LineNo, b.toNat = n.val →
      ((s.line n).tx ≠ .idle →
        exec (.lineReset b) s = .next (s.setLine n { s.line n with resetWaiting := true }).closePort) ∧
      ((s.line n).tx = .idle → exec (.lineReset b) s = .next (s.lineResetActs n).closePort))) ∧
  (∀ (s : State) (n : LineNo), s.operating = true → (s.line n).resetWaiting = true → s.resetting = false →
    (∀ f h p, (s.line n).tx = .sending f h p →
      ∀ u, u = s.presentHandle h →
        ∃ t, exec (.lineResetAct n) s = .next t ∧ exec (.transmitEnd n) s = .next t ∧
          t = ((u.setLine n { u.line n with tx := .idle }).lineResetActs n).choose n) ∧
    (∀ f p, (s.line n).tx = .stopping f p →
      ∃ t, exec (.lineResetAct n) s = .next t ∧ exec (.stoppingEnd n) s = .next t ∧
        t = ((s.setLine n { s.line n with tx := .idle }).lineResetActs n).choose n))

/-- R24, R63, R69, R80, R97, R116, R158, R171: what a line reset does when it acts. The line's live records end with
LINE_RESET, in ascending index, and leave no sequence fenced. Its queues are emptied, its mark cleared, its service
OPEN, its detector restarted and its receiver DISCARDING. Each entry loses its fences and marks and keeps its cursor,
and each that is not DISABLED becomes ABSENT and cleared. The control queue then holds the PROBEs of these entries in
ascending drop order if the link is UP, and an IDLE transmitter takes the first of them. Nothing else changes, but for
an acknowledgement in progress for a station of the line, which will have no effect. -/
def Obligations.LineResetActs : Prop :=
  ∀ (s : State) (n : LineNo) (t : State) (rs : List RecordIdx) (ps : List ControlFrame), s.DispatchLawful →
    t = s.lineResetActs n → rs = s.liveWhere (fun x => x.line == n) →
    ps = (if (s.line n).link = .up then
      ((List.finRange 8).filter (fun d => (s.entry (stationAt n d)).state != .disabled)).map .probe else []) →
    (∀ r, r ∈ rs ↔ (s.record r).state.live = true ∧ (s.record r).line = n) ∧
    (∀ r ∈ rs, t.record r =
      { s.record r with state := .failed, outcome := some .lineReset, deadline := none, seq := none }) ∧
    (∀ r, r ∉ rs → t.record r = s.record r) ∧
    t.completionQ = s.completionQ ++ rs ∧
    t.signalC = (s.endRecords .lineReset false rs).signalC ∧
    t.idleTimer = (s.endRecords .lineReset false rs).idleTimer ∧
    (∀ d, (s.entry (stationAt n d)).state ≠ .disabled →
      t.entry (stationAt n d) = { s.entry (stationAt n d) with
        state := .absent, identity := none, window := none, replaced := false, failures := 0, presented := none
        pendingCause := none, fence := Vector.replicate 16 none, changed := false, ackMark := false
        probeDue := decide ((s.line n).link ≠ .up)
        probeTick := if (s.line n).link = .up then s.tick + BitVec.ofNat 32 s.params.probeInterval[n.val] else s.tick }) ∧
    (∀ d, (s.entry (stationAt n d)).state = .disabled →
      t.entry (stationAt n d) = { s.entry (stationAt n d) with
        fence := Vector.replicate 16 none, changed := false, ackMark := false }) ∧
    (∀ st, lineOf st ≠ n → t.entry st = s.entry st) ∧
    t.line n = { s.line n with
      dispatchQ := [], controlQ := (t.line n).controlQ, tx := (t.line n).tx, resetWaiting := false, service := .opened
      quiesceDeadline := none, markRun := 0, spaceRun := 0
      rx := if (s.line n).link = .up then .discarding else (s.line n).rx
      quiet := if (s.line n).link = .up then 0 else (s.line n).quiet } ∧
    (ps = [] ∨ (s.line n).tx ≠ .idle ∨ s.resetting = true →
      (t.line n).controlQ = ps ∧ (t.line n).tx = (s.line n).tx) ∧
    (∀ c cs, ps = c :: cs → (s.line n).tx = .idle → s.resetting = false →
      (t.line n).controlQ = cs ∧
      (t.line n).tx = .sending c.frame none { char := 0, elapsed := 0, bitTime := s.params.lineRate[n.val] }) ∧
    (∀ m, m ≠ n → t.line m = s.line m) ∧
    (∀ d, s.port.op = some .ackAttention → s.port.taken = true →
      (s.port.params.getD 0 0#8).toNat = (stationAt n d).val → t.port = { s.port with ackVoid := true }) ∧
    ((s.port.op ≠ some .ackAttention ∨ s.port.taken = false ∨
        ∀ d, (s.port.params.getD 0 0#8).toNat ≠ (stationAt n d).val) → t.port = s.port) ∧
    t = { s with
      records := t.records, stations := t.stations, lines := t.lines, completionQ := t.completionQ
      signalC := t.signalC, idleTimer := t.idleTimer, port := t.port }

/-- R23, R63, R68, R80, R98, R117, R154, R171, R182, R195: SOFT RESET frees every record that is not FREE with its
generation advanced, empties the queues and C, reopens every line and clears every entry but for cursors and what
DISABLED entries keep, and keeps parameters, the error account, the links, the detectors and the tick count. Each
control queue then holds the PROBEs of an UP line's entries that are not DISABLED, in ascending drop order. While a
transmitter is busy RESETTING stays at 1 and no transmitter changes. If none is busy the arbiters choose, and each
takes the first PROBE of its line. -/
def Obligations.SoftReset : Prop :=
  ∀ s : State, s.Serving [0xDE#8] → ∃ t, exec .softReset s = .next t ∧
    (∀ r, (s.record r).state = .free → t.record r = s.record r) ∧
    (∀ r, (s.record r).state ≠ .free → t.record r = Record.blank ((s.record r).gen + 1)) ∧
    t.completionQ = [] ∧ t.signalC = false ∧ t.idleTimer = none ∧
    (∀ n d, (s.entry (stationAt n d)).state ≠ .disabled →
      t.entry (stationAt n d) = { s.entry (stationAt n d) with
        state := .absent, identity := none, window := none, replaced := false, failures := 0, presented := none
        pendingCause := none, fence := Vector.replicate 16 none, changed := false, ackMark := false
        probeDue := decide ((s.line n).link ≠ .up)
        probeTick := if (s.line n).link = .up then s.tick + BitVec.ofNat 32 s.params.probeInterval[n.val] else s.tick }) ∧
    (∀ st, (s.entry st).state = .disabled →
      t.entry st = { s.entry st with fence := Vector.replicate 16 none, changed := false, ackMark := false }) ∧
    (∀ n ps, ps = (if (s.line n).link = .up then
        ((List.finRange 8).filter (fun d => (s.entry (stationAt n d)).state != .disabled)).map .probe else []) →
      t.line n = { s.line n with
        dispatchQ := [], controlQ := (t.line n).controlQ, tx := (t.line n).tx, resetWaiting := false, service := .opened
        quiesceDeadline := none, rx := if (s.line n).link = .up then .discarding else (s.line n).rx
        quiet := (t.line n).quiet } ∧
      ((s.line n).link = .up → (t.line n).quiet = 0) ∧
      ((s.line n).link ≠ .up → (s.line n).rx ≠ .discarding → (t.line n).quiet = (s.line n).quiet) ∧
      ((∃ m, (s.line m).tx ≠ .idle) ∨ ps = [] → (t.line n).controlQ = ps ∧ (t.line n).tx = (s.line n).tx) ∧
      (∀ c cs, (∀ m, (s.line m).tx = .idle) → ps = c :: cs → (t.line n).controlQ = cs ∧
        (t.line n).tx = .sending c.frame none { char := 0, elapsed := 0, bitTime := s.params.lineRate[n.val] })) ∧
    ((∃ n, (s.line n).tx ≠ .idle) → t.resetting = true) ∧
    ((∀ n, (s.line n).tx = .idle) → t.resetting = false) ∧
    t = { s with
      records := t.records, stations := t.stations, lines := t.lines, completionQ := [], signalC := false
      idleTimer := none, resetting := t.resetting, port := Port.idle, pins := { s.pins with csnHigh := true } }

/-- R91, R93, R97, R117, R195: the in-progress period ends in the event in which the last busy transmitter becomes
IDLE, after the end of its frame and a line reset that waits for it. In that event RESETTING becomes 0, the idle
measure of every DISCARDING receiver begins anew, and the arbiter of every line makes its choice. While another
transmitter is busy, one that becomes IDLE stays so. -/
def Obligations.ResetPeriodEnds : Prop :=
  (∀ (s : State) (n : LineNo) (u v t : State), s.operating = true → s.resetting = true →
    (∀ m, m ≠ n → (s.line m).tx = .idle) → (s.line n).tx ≠ .idle →
    u = (match (s.line n).tx with | .sending _ h _ => s.presentHandle h | _ => s) →
    v = (if (s.line n).resetWaiting then (u.setLine n { u.line n with tx := .idle }).lineResetActs n
      else u.setLine n { u.line n with tx := .idle }) →
    t = (List.finRange 8).foldl (fun x m => x.choose m)
      ({ v with resetting := false }.mapLines (fun _ l => if l.rx = RxCond.discarding then { l with quiet := 0 } else l)) →
    exec .resetPeriodEnd s = .next t ∧ t.resetting = false ∧
    (∀ f h p, (s.line n).tx = .sending f h p → exec (.transmitEnd n) s = .next t) ∧
    (∀ f p, (s.line n).tx = .stopping f p → exec (.stoppingEnd n) s = .next t)) ∧
  (∀ (s : State) (n : LineNo), s.operating = true → s.resetting = true → (∃ m, m ≠ n ∧ (s.line m).tx ≠ .idle) →
    (s.line n).resetWaiting = false →
    (∀ f h p, (s.line n).tx = .sending f h p → ∀ u, u = s.presentHandle h →
      exec (.transmitEnd n) s = .next (u.setLine n { u.line n with tx := .idle })) ∧
    (∀ f p, (s.line n).tx = .stopping f p →
      exec (.stoppingEnd n) s = .next (s.setLine n { s.line n with tx := .idle })))

/-! ### Parameters, status and errors (chapters 8, 10, 11, 12) -/

/-- R192, R204: the number, the count of index values and the range of each parameter. A SET PARAMETER that fails a
check is COMMAND_ERROR and writes nothing; one that passes writes the value and, LINE_ENABLE and COALESCE_COUNT apart,
has no other effect in its event. A write that has a row of its own is the SET PARAMETER of its number, its index and
its value: LINE_ENABLE and COALESCE_COUNT too. -/
def Obligations.SetParameter : Prop :=
  (∀ (k : Nat) (p : Param) (count least greatest : Nat),
    (k, p, count, least, greatest) ∈
      [ (1, Param.tickDivider, 1, 1, 65535), (2, .lineEnable, 8, 0, 1), (3, .lineRate, 8, 16, 65535),
        (4, .windowLimit, 8, 1, 4), (5, .probeInterval, 8, 10, 65535), (6, .deadlineClass 0, 1, 1, 65535),
        (7, .deadlineClass 1, 1, 1, 65535), (8, .deadlineClass 2, 1, 1, 65535), (9, .deadlineClass 3, 1, 1, 65535),
        (10, .segmentInterval, 1, 1, 4095), (11, .holdoffMinimum, 1, 1, 65535), (12, .holdoffLimit, 1, 1, 15),
        (13, .quarantineInterval, 1, 1, 65535), (14, .lossThreshold, 1, 1, 7), (15, .urgentReserve, 1, 0, 16),
        (16, .coalesceCount, 1, 1, 16), (17, .coalesceIdle, 1, 0, 4095), (18, .quiesceDeadline, 1, 1, 65535),
        (19, .noteEnable, 1, 0, 15), (20, .errorClass, 11, 0, 1), (21, .faultEnable, 11, 0, 1) ] →
    Param.ofNumber k = some p ∧ p.indexCount = count ∧ p.least = least ∧ p.greatest = greatest) ∧
  (∀ k : Nat, k = 0 ∨ 21 < k → Param.ofNumber k = none) ∧
  (∀ (s : State) (n : LineNo) (k : Byte) (v : BitVec 16),
    exec (.setParameter 2#8 (byteOf n.val) 1#16) s = exec (.lineEnableOn n) s ∧
    exec (.setParameter 2#8 (byteOf n.val) 0#16) s = exec (.lineEnableOff n) s ∧
    exec (.setParameter 3#8 (byteOf n.val) v) s = exec (.setLineRate n v) s ∧
    exec (.setParameter 4#8 (byteOf n.val) v) s = exec (.setWindowLimit n v) s ∧
    exec (.setParameter 1#8 0#8 v) s = exec (.setTickDivider v) s ∧
    exec (.setParameter 15#8 0#8 v) s = exec (.setUrgentReserve v) s ∧
    exec (.setParameter 16#8 0#8 v) s = exec (.setCoalesceCount v) s ∧
    exec (.setParameter 19#8 0#8 v) s = exec (.setNoteEnable v) s ∧
    exec (.setParameter 20#8 k v) s = exec (.setErrorClass k v) s ∧
    exec (.setParameter 21#8 k v) s = exec (.setFaultEnable k v) s) ∧
  ∀ (s : State) (a b : Byte) (v : BitVec 16),
    s.Serving [0xD1#8, a, b, highByte v.toNat, lowByte v.toNat] →
    (Param.ofNumber a.toNat = none →
      exec (.setParameter a b v) s = .next (s.report (commandErrorOf 0xD1#8)).closePort) ∧
    (∀ p, Param.ofNumber a.toNat = some p →
      (p.indexCount ≤ b.toNat ∨ v.toNat < p.least ∨ p.greatest < v.toNat →
        exec (.setParameter a b v) s = .next (s.report (commandErrorOf 0xD1#8)).closePort) ∧
      (∀ n : LineNo, b.toNat = n.val → p = .lineRate ∨ p = .windowLimit → (s.line n).link ≠ .off →
        exec (.setParameter a b v) s = .next (s.report (commandErrorOf 0xD1#8)).closePort) ∧
      (b.toNat < p.indexCount → p.least ≤ v.toNat → v.toNat ≤ p.greatest →
        (p = .lineRate ∨ p = .windowLimit → ∀ n : LineNo, b.toNat = n.val → (s.line n).link = .off) →
        p ≠ .lineEnable → p ≠ .coalesceCount →
        exec (.setParameter a b v) s = .next
          ({ s with params := s.params.write p b.toNat v.toNat } : State).closePort))

/-- R20, R50, R99, R118, R153, R176, R177, R192, R204: the named writes: what each stores, its range, and that it
changes nothing else in its event. -/
def Obligations.NamedParameterWrites : Prop :=
  (∀ (s : State) (n : LineNo) (v : BitVec 16),
    (s.Serving (setBytes 3#8 (byteOf n.val) v) →
      ((s.line n).link = .off → 16 ≤ v.toNat →
        exec (.setLineRate n v) s = .next
          ({ s with params := { s.params with lineRate := s.params.lineRate.set n.val v.toNat } } : State).closePort) ∧
      ((s.line n).link ≠ .off ∨ v.toNat < 16 →
        exec (.setLineRate n v) s = .next (s.report (commandErrorOf 0xD1#8)).closePort)) ∧
    (s.Serving (setBytes 4#8 (byteOf n.val) v) →
      ((s.line n).link = .off → 1 ≤ v.toNat ∧ v.toNat ≤ 4 →
        exec (.setWindowLimit n v) s = .next
          ({ s with
            params := { s.params with windowLimit := s.params.windowLimit.set n.val v.toNat } } : State).closePort) ∧
      ((s.line n).link ≠ .off ∨ v.toNat = 0 ∨ 4 < v.toNat →
        exec (.setWindowLimit n v) s = .next (s.report (commandErrorOf 0xD1#8)).closePort))) ∧
  (∀ (s : State) (v : BitVec 16),
    (s.Serving (setBytes 1#8 0#8 v) →
      (1 ≤ v.toNat →
        exec (.setTickDivider v) s = .next
          ({ s with params := { s.params with tickDivider := v.toNat } } : State).closePort) ∧
      (v.toNat = 0 → exec (.setTickDivider v) s = .next (s.report (commandErrorOf 0xD1#8)).closePort)) ∧
    (s.Serving (setBytes 15#8 0#8 v) →
      (v.toNat ≤ 16 →
        exec (.setUrgentReserve v) s = .next
          ({ s with params := { s.params with urgentReserve := v.toNat } } : State).closePort) ∧
      (16 < v.toNat → exec (.setUrgentReserve v) s = .next (s.report (commandErrorOf 0xD1#8)).closePort)) ∧
    (s.Serving (setBytes 19#8 0#8 v) →
      (v.toNat ≤ 15 →
        exec (.setNoteEnable v) s = .next
          ({ s with params := { s.params with noteEnable := v.setWidth 4 } } : State).closePort) ∧
      (15 < v.toNat → exec (.setNoteEnable v) s = .next (s.report (commandErrorOf 0xD1#8)).closePort))) ∧
  (∀ (s : State) (b : Byte) (v : BitVec 16),
    (s.Serving (setBytes 20#8 b v) →
      (∀ k : Fin 11, b.toNat = k.val → v.toNat ≤ 1 →
        exec (.setErrorClass b v) s = .next
          ({ s with
            params := { s.params with
              errorClass := s.params.errorClass.set k.val (if v = 0#16 then .notice else .alert) } } : State).closePort) ∧
      (11 ≤ b.toNat ∨ 1 < v.toNat →
        exec (.setErrorClass b v) s = .next (s.report (commandErrorOf 0xD1#8)).closePort)) ∧
    (s.Serving (setBytes 21#8 b v) →
      (∀ k : Fin 11, b.toNat = k.val → v.toNat ≤ 1 →
        exec (.setFaultEnable b v) s = .next
          ({ s with
            params := { s.params with
              faultEnable := s.params.faultEnable.set k.val (v != 0#16) } } : State).closePort) ∧
      (11 ≤ b.toNat ∨ 1 < v.toNat →
        exec (.setFaultEnable b v) s = .next (s.report (commandErrorOf 0xD1#8)).closePort)))

/-- R111, R149, R150, R152: the writes that act in their event. COALESCE_COUNT re-evaluates C and the idle timer by its
three rows. LINE_ENABLE ON takes an OFF line to DOWN with the detector started; ON of another line, and OFF of an
OFF line, store the value alone. -/
def Obligations.WritesThatAct : Prop :=
  (∀ (s : State) (v : BitVec 16), s.Serving (setBytes 16#8 0#8 v) →
    (v.toNat = 0 ∨ 16 < v.toNat →
      exec (.setCoalesceCount v) s = .next (s.report (commandErrorOf 0xD1#8)).closePort) ∧
    (1 ≤ v.toNat → v.toNat ≤ 16 → ∃ c i,
      exec (.setCoalesceCount v) s = .next
        ({ s with
          params := { s.params with coalesceCount := v.toNat }, signalC := c, idleTimer := i } : State).closePort ∧
      ((v.toNat ≤ s.completionQ.length ∨ ∃ r ∈ s.completionQ, (s.record r).priority = .urgent) →
        c = true ∧ i = s.idleTimer) ∧
      (s.completionQ = [] → c = false ∧ i = none) ∧
      (s.completionQ ≠ [] → s.completionQ.length < v.toNat → (∀ r ∈ s.completionQ, (s.record r).priority = .normal) →
        c = false ∧
        i = if s.params.coalesceIdle = 0 then none else some (s.tick + BitVec.ofNat 32 s.params.coalesceIdle)))) ∧
  (∀ (s : State) (n : LineNo),
    (s.Serving (setBytes 2#8 (byteOf n.val) 1#16) →
      ((s.line n).link = .off →
        exec (.lineEnableOn n) s = .next
          ({ s.setLine n { s.line n with link := .down, markRun := 0, spaceRun := 0 } with
            params := { s.params with lineEnable := s.params.lineEnable.set n.val true } } : State).closePort) ∧
      ((s.line n).link ≠ .off →
        exec (.lineEnableOn n) s = .next
          ({ s with
            params := { s.params with lineEnable := s.params.lineEnable.set n.val true } } : State).closePort)) ∧
    (s.Serving (setBytes 2#8 (byteOf n.val) 0#16) → (s.line n).link = .off →
      exec (.lineEnableOff n) s = .next
        ({ s with
          params := { s.params with lineEnable := s.params.lineEnable.set n.val false } } : State).closePort))

/-- R190, R192, R193, R194, R201, R204: READ PARAMETER answers the value of a numbered parameter, high byte first, and
READ STATUS, whether or not its status byte showed RESETTING, the free count, the completion count and eight line
bytes; neither changes anything. A value of a parameter's range, once written, is the value read, and a write leaves
the value of every other parameter and index. -/
def Obligations.ReadParameterAndStatus : Prop :=
  (∀ (s : State) (a b : Byte), s.Awaiting [0xD2#8, a, b] →
    (Param.ofNumber a.toNat = none →
      exec (.readParameter a b) s = .next ((s.arrived [0xD2#8, a, b]).report (commandErrorOf 0xD2#8))) ∧
    (∀ p, Param.ofNumber a.toNat = some p →
      (p.indexCount ≤ b.toNat →
        exec (.readParameter a b) s = .next ((s.arrived [0xD2#8, a, b]).report (commandErrorOf 0xD2#8))) ∧
      (b.toNat < p.indexCount →
        exec (.readParameter a b) s = .next
          (s.answered [0xD2#8, a, b]
            [byteOf (s.params.read p b.toNat / 256), byteOf (s.params.read p b.toNat % 256)])))) ∧
  (∀ s : State, s.operating = true → s.port.phase = .opened → s.port.count = 0 → s.port.bytes = [] →
    exec .readStatus s = .next
      (s.answered [0xA1#8]
        (byteOf s.freeCount :: byteOf s.completionQ.length ::
          (List.finRange 8).map fun n => byteOf
            ((match (s.line n).link with | .off => 0 | .down => 1 | .up => 2) * 16 +
              (match (s.line n).service with | .opened => 0 | .draining => 1 | .awaitingAcks => 2 | .quiesced => 3))))) ∧
  (∀ (ps : Params) (p : Param) (i v : Nat), i < p.indexCount → p.least ≤ v → v ≤ p.greatest →
    (ps.write p i v).read p i = v ∧
    ∀ (q : Param) (j : Nat), j < q.indexCount → q ≠ p ∨ j ≠ i → (ps.write p i v).read q j = ps.read q j)

/-- R178, R179, R201: READ ERRORS answers the account, eleven counters, the alert set, the capture and the further
count, and changes nothing; CLEAR ERRORS empties the account at the rise of CSn and keeps classes and enables. That
bits 1 and 0 of the capture's first byte are 0 is the model's choice [log 29]. -/
def Obligations.ReadAndClearErrors : Prop :=
  (∀ s : State, s.Awaiting [0xD4#8] → ∃ hi lo : Byte,
    exec .readErrors s = .next
      (s.answered [0xD4#8]
        (s.faults.counters.toList.map byteOf ++ [hi, lo] ++ captureBytes s.faults.capture
          ++ [byteOf s.faults.further, 0xFF#8])) ∧
    (∀ k : Fin 11, (hi ++ lo).getLsbD k.val = s.faults.alerts[k.val]) ∧
    (∀ j : Nat, 11 ≤ j → (hi ++ lo).getLsbD j = false)) ∧
  (captureBytes none = List.replicate 10 0#8) ∧
  (∀ o : Occurrence, ∃ b : Byte, captureBytes (some o) =
      [b, byteOf o.kind.code.val, (o.line.map (fun n => byteOf n.val)).getD 0#8,
        (o.drop.map (fun d => byteOf d.val)).getD 0#8, (o.seq.map (fun q => byteOf q.val)).getD 0#8,
        (o.header.getD []).getD 0 0#8, (o.header.getD []).getD 1 0#8, (o.header.getD []).getD 2 0#8,
        (o.header.getD []).getD 3 0#8, o.opcode.getD 0#8] ∧
      b.getLsbD 7 = true ∧ b.getLsbD 6 = o.line.isSome ∧ b.getLsbD 5 = o.drop.isSome ∧ b.getLsbD 4 = o.seq.isSome ∧
      b.getLsbD 3 = o.header.isSome ∧ b.getLsbD 2 = o.opcode.isSome ∧ b.getLsbD 1 = false ∧ b.getLsbD 0 = false) ∧
  (∀ s : State, s.Serving [0xD5#8] →
    exec .clearErrors s = .next
      ({ s with
        faults :=
          { counters := Vector.replicate 11 0, alerts := Vector.replicate 11 false
            capture := none, further := 0 } } : State).closePort)

/-- R173: what one occurrence of an error kind does to the account. -/
def Obligations.OccurrenceTaken : Prop :=
  ∀ (s : State) (o : Occurrence),
    (∀ k : Fin 11, k ≠ o.kind.code → (s.report o).faults.counters[k.val] = s.faults.counters[k.val] ∧
      (s.report o).faults.alerts[k.val] = s.faults.alerts[k.val]) ∧
    (s.faults.counters[o.kind.code.val] < 255 →
      (s.report o).faults.counters[o.kind.code.val] = s.faults.counters[o.kind.code.val] + 1) ∧
    (s.faults.counters[o.kind.code.val] = 255 → (s.report o).faults.counters[o.kind.code.val] = 255) ∧
    (s.params.errorClass[o.kind.code.val] = .alert → (s.report o).faults.alerts[o.kind.code.val] = true) ∧
    (s.params.errorClass[o.kind.code.val] = .notice →
      (s.report o).faults.alerts[o.kind.code.val] = s.faults.alerts[o.kind.code.val]) ∧
    (s.faults.capture = none →
      (s.report o).faults.capture = some o ∧ (s.report o).faults.further = s.faults.further) ∧
    (∀ c, s.faults.capture = some c → (s.report o).faults.capture = some c ∧
      (s.faults.further < 255 → (s.report o).faults.further = s.faults.further + 1) ∧
      (s.faults.further = 255 → (s.report o).faults.further = 255)) ∧
    s.report o = { s with faults := (s.report o).faults }

/-- R21, R65, R99, R103, R110, R153, R155, R160, R177, R205: the outputs as views of the state. NOTEn is asserted while
an enabled source of C, A, Q and S is true, FAULTn while a kind in the alert set is enabled; each source, F and the
other flags of the status byte in their own terms. TXD is at mark and DENn released while the transmitter is IDLE.
While it is SENDING or STOPPING DENn is asserted and TXD has the start bit, the data bits from the least significant
and the stop bit. -/
def Obligations.OutputPins : Prop :=
  ∀ s : State,
    (s.noteAsserted = true ↔
      (s.params.noteEnable.getLsbD 3 = true ∧ s.signalC = true) ∨
      (s.params.noteEnable.getLsbD 2 = true ∧ ∃ st : StationIdx, (s.entry st).presented.isSome = true) ∨
      (s.params.noteEnable.getLsbD 1 = true ∧ ∃ n : LineNo, (s.line n).quiesceFinished = true) ∨
      (s.params.noteEnable.getLsbD 0 = true ∧ ∃ st : StationIdx, (s.entry st).changed = true)) ∧
    (s.faultAsserted = true ↔
      ∃ k : Fin 11, s.faults.alerts[k.val] = true ∧ s.params.faultEnable[k.val] = true) ∧
    (s.sourceA = true ↔ ∃ st : StationIdx, (s.entry st).presented.isSome = true) ∧
    (s.sourceQ = true ↔ ∃ n : LineNo, (s.line n).quiesceFinished = true) ∧
    (s.sourceS = true ↔ ∃ st : StationIdx, (s.entry st).changed = true) ∧
    (s.flagF = true ↔ ∃ k : Fin 11, s.faults.alerts[k.val] = true) ∧
    (s.anyLineDown = true ↔ ∃ n : LineNo, (s.line n).link = .down) ∧
    (s.freeLow = true ↔ s.freeCount ≤ s.params.urgentReserve) ∧
    (∀ n : LineNo,
      ((s.line n).tx = .idle → s.txd n = true ∧ s.denAsserted n = false) ∧
      (∀ f c, ((∃ h, (s.line n).tx = .sending f h c) ∨ (s.line n).tx = .stopping f c) → 0 < c.bitTime →
        s.denAsserted n = true ∧
        (c.elapsed < c.bitTime → s.txd n = false) ∧
        (∀ k : Fin 8, (k.val + 1) * c.bitTime ≤ c.elapsed → c.elapsed < (k.val + 2) * c.bitTime →
          s.txd n = (f.wire.getD c.char 0#8).getLsbD k.val) ∧
        (9 * c.bitTime ≤ c.elapsed → s.txd n = true)))

/-! ### Dispatch (chapters 4 and 5) -/

/-- R71, R89, R90, R92: the arbiter's choice. It finds nothing to do unless the transmitter is IDLE with no line reset
waiting and RESETTING at 0. Then it starts the head control frame, else the first eligible record of the dispatch
queue under the sequence it holds or the first free one from the cursor, which moves past it, else nothing. -/
def Obligations.ArbiterChoice : Prop :=
  ∀ (s : State) (n : LineNo),
    ((s.line n).tx ≠ .idle ∨ (s.line n).resetWaiting = true ∨ s.resetting = true → s.choose n = s) ∧
    (∀ h : Handle, s.eligible n h = true ↔
      (s.line n).link = .up ∧ (s.line n).service = .opened ∧
        ((s.record h.index).seq.isSome = true ∨
          ((∃ w, (s.entry (s.record h.index).station).window = some w ∧
              s.heldCount (s.record h.index).station
                < min w s.params.windowLimit[(lineOf (s.record h.index).station).val]) ∧
            ∃ q, s.seqFree (s.record h.index).station q = true))) ∧
    ((s.line n).tx = .idle → (s.line n).resetWaiting = false → s.resetting = false →
      (∀ c rest, (s.line n).controlQ = c :: rest →
        s.choose n = s.setLine n { s.line n with
          controlQ := rest
          tx := .sending c.frame none { char := 0, elapsed := 0, bitTime := s.params.lineRate[n.val] } }) ∧
      ((s.line n).controlQ = [] →
        ((∀ h ∈ (s.line n).dispatchQ, s.eligible n h = false) → s.choose n = s) ∧
        (∀ before h after, (s.line n).dispatchQ = before ++ h :: after →
          (∀ g ∈ before, s.eligible n g = false ∧ g.index ≠ h.index) → s.eligible n h = true →
          (∀ g ∈ after, g.index ≠ h.index) → (s.record h.index).line = n →
          ∃ q, (∀ p, (s.record h.index).seq = some p → q = p) ∧
            ((s.record h.index).seq = none → ∀ k : Fin 16,
              s.seqFree (s.record h.index).station ((s.entry (s.record h.index).station).cursor + k) = true →
              (∀ j, j < k →
                s.seqFree (s.record h.index).station ((s.entry (s.record h.index).station).cursor + j) = false) →
              q = (s.entry (s.record h.index).station).cursor + k) ∧
            s.choose n =
              { (s.setRecord h.index { s.record h.index with
                    state := .transmitting, seq := some q, transmissions := (s.record h.index).transmissions + 1 }).setLine n
                  { s.line n with
                    dispatchQ := before ++ after
                    tx := .sending ((s.record h.index).requestFrame q) (some (s.handleOf h.index))
                      { char := 0, elapsed := 0, bitTime := s.params.lineRate[n.val] } } with
                stations :=
                  if (s.record h.index).seq.isSome then s.stations
                  else (s.setEntry (s.record h.index).station
                    { s.entry (s.record h.index).station with cursor := q + 1 }).stations })))

/-- R63, R64, R86 to R88, R175: a control frame offered to a line that is not UP is discarded without report; on an UP
line it joins the queue at its tail, or is reported as CONTROL_DROPPED when the queue holds 16 frames. The presence
sweep offers a PROBE to each entry of the line that is due and sendable, in ascending drop order, and makes it due
again after PROBE_INTERVAL: the PROBEs that find room join the queue, each of the others is reported as CONTROL_DROPPED
in that order, and nothing else changes. -/
def Obligations.ControlFrames : Prop :=
  ∀ (s : State) (n : LineNo),
    (∀ c : ControlFrame,
      ((s.line n).link ≠ .up → s.offer n c = s) ∧
      ((s.line n).link = .up → (s.line n).controlQ.length < 16 →
        s.offer n c = s.setLine n { s.line n with controlQ := (s.line n).controlQ ++ [c] }) ∧
      ((s.line n).link = .up → 16 ≤ (s.line n).controlQ.length →
        s.offer n c = s.report
          { kind := .controlDropped, line := some n, drop := some c.drop, seq := c.seq?
            header := some c.frame.header, opcode := none })) ∧
    ((s.line n).link ≠ .up ∨ (s.line n).service ≠ .opened → s.probeSweep n = s) ∧
    ((s.line n).link = .up → (s.line n).service = .opened → ∀ (t : State) (ds : List DropNo), t = s.probeSweep n →
      ds = (List.finRange 8).filter (fun d => (s.entry (stationAt n d)).probeDue &&
        ((s.entry (stationAt n d)).state == .absent || (s.entry (stationAt n d)).state == .lost)) →
      (∀ d ∈ ds, t.entry (stationAt n d) = { s.entry (stationAt n d) with
        probeDue := false, probeTick := s.tick + BitVec.ofNat 32 s.params.probeInterval[n.val] }) ∧
      (∀ d, d ∉ ds → t.entry (stationAt n d) = s.entry (stationAt n d)) ∧
      (∀ st, lineOf st ≠ n → t.entry st = s.entry st) ∧
      t.line n = { s.line n with
        controlQ := (s.line n).controlQ ++ (ds.take (16 - (s.line n).controlQ.length)).map .probe } ∧
      (∀ m, m ≠ n → t.line m = s.line m) ∧
      t.faults = ((ds.drop (16 - (s.line n).controlQ.length)).foldl
        (fun u d => u.report
          { kind := .controlDropped, line := some n, drop := some d, seq := none
            header := some (ControlFrame.probe d).frame.header, opcode := none }) s).faults ∧
      t = { s with stations := t.stations, lines := t.lines, faults := t.faults })

/-! ### The station link (chapters 5 and 6) -/

/-- R12, R93, R95: the end of a frame makes the transmitter IDLE, and the arbiter chooses (a waiting line reset and the
in-progress period apart). A REQUEST presents its handle: a current record in TRANSMITTING becomes SENT with a REPLY
deadline of its class, any other is left alone. A cut frame presents none. -/
def Obligations.FrameEnds : Prop :=
  ∀ (s : State) (n : LineNo), s.operating = true → (s.line n).resetWaiting = false → s.resetting = false →
    (∀ f p, (s.line n).tx = .sending f none p →
      exec (.transmitEnd n) s = .next ((s.setLine n { s.line n with tx := .idle }).choose n)) ∧
    (∀ f h p, (s.line n).tx = .sending f (some h) p →
      ((s.record h.index).gen = h.gen → (s.record h.index).state = .transmitting →
        exec (.transmitEnd n) s = .next
          (((s.setRecord h.index { s.record h.index with
              state := .sent
              deadline := some
                { kind := .reply
                  expiry := s.tick +
                    BitVec.ofNat 32 s.params.deadlineClass[(s.record h.index).deadlineClass.val] } }).setLine n
            { s.line n with tx := .idle }).choose n)) ∧
      ((s.record h.index).gen ≠ h.gen ∨ (s.record h.index).state ≠ .transmitting →
        exec (.transmitEnd n) s = .next ((s.setLine n { s.line n with tx := .idle }).choose n))) ∧
    (∀ f p, (s.line n).tx = .stopping f p →
      exec (.stoppingEnd n) s = .next ((s.setLine n { s.line n with tx := .idle }).choose n))

/-- R56, R57, R58, R80, R95, R112 to R114, R168: a line that comes UP begins to receive and has its ABSENT and LOST
entries probed. One that loses its link ends its live records with LINE_DOWN, in ascending index, cuts its frame,
empties its queues and goes from DRAINING or AWAITING_ACKS to QUIESCED with ALL_ACKED. DOWN fences the sequences given
up and makes the PRESENT entries LOST with everything else of them kept, and OFF frees the sequences, empties every
fence place and makes the PRESENT and LOST entries ABSENT with their attention slots kept. Nothing else changes, but
for the marks that the entry of a DRAINING line into AWAITING_ACKS clears. That a line comes UP with no character begun
also when RXD has gone to space meanwhile is the model's choice [log 31]. -/
def Obligations.LinkChanges : Prop :=
  ∀ (s : State) (n : LineNo),
    (s.operating = true → (s.line n).link = .down →
      (s.pins.rxdMark[n.val] = true ∨ 40 * s.params.lineRate[n.val] ≤ (s.line n).markRun) → ∀ u,
      u = (s.setLine n { s.line n with
        link := .up, rx := if s.resetting then .discarding else .hunting, phase := .none, quiet := 0
        spaceRun := 0 }).mapLineEntries n (fun e =>
          if e.state = .absent ∨ e.state = .lost then { e with probeTick := s.tick, probeDue := true } else e) →
      exec (.linkUp n) s = .next ((u.probeSweep n).choose n)) ∧
    (s.operating = true → (s.line n).link = .up →
      (s.pins.rxdMark[n.val] = false ∨ 20 * s.params.lineRate[n.val] ≤ (s.line n).spaceRun) →
      exec (.linkDown n) s = .next (s.linkDown n)) ∧
    ((s.line n).link ≠ .off → s.Serving (setBytes 2#8 (byteOf n.val) 0#16) →
      exec (.lineEnableOff n) s = .next
        ((({ s with params := { s.params with lineEnable := s.params.lineEnable.set n.val false } } : State).linkOff
          n).closePort)) ∧
    (∀ (t : State) (rs : List RecordIdx) (waits : Bool) (mark : Entry → Bool),
      (t = s.linkDown n ∨ t = s.linkOff n) → rs = s.liveWhere (fun x => x.line == n) →
      waits = ((s.line n).service == .draining || (s.line n).service == .awaitingAcks) →
      mark = (fun e => e.ackMark && (s.line n).service != .draining) →
      (∀ r ∈ rs, t.record r =
        { s.record r with state := .failed, outcome := some .lineDown, deadline := none, seq := none }) ∧
      (∀ r, r ∉ rs → t.record r = s.record r) ∧
      t.completionQ = s.completionQ ++ rs ∧
      t.signalC = (s.endRecords .lineDown true rs).signalC ∧
      t.idleTimer = (s.endRecords .lineDown true rs).idleTimer ∧
      t.line n = { s.line n with
        link := (t.line n).link, markRun := 0, spaceRun := 0, rx := .hunting, phase := .none, quiet := 0
        tx := (t.line n).tx, dispatchQ := (t.line n).dispatchQ, controlQ := []
        service := if waits then .quiesced else (s.line n).service
        quiesceDeadline := if waits then none else (s.line n).quiesceDeadline
        quiesceOutcome := if waits then some .allAcked else (s.line n).quiesceOutcome
        quiesceFinished := waits || (s.line n).quiesceFinished } ∧
      (s.DispatchLawful → (t.line n).dispatchQ = []) ∧
      (∀ f h p, (s.line n).tx = .sending f h p → (t.line n).tx = .stopping f p) ∧
      ((∀ f h p, (s.line n).tx ≠ .sending f h p) → (t.line n).tx = (s.line n).tx) ∧
      (∀ m, m ≠ n → t.line m = s.line m) ∧
      (∀ st, lineOf st ≠ n → t.entry st = s.entry st) ∧
      t = { s with
        records := t.records, stations := t.stations, lines := t.lines, completionQ := t.completionQ
        signalC := t.signalC, idleTimer := t.idleTimer } ∧
      (t = s.linkDown n → (t.line n).link = .down ∧ ∀ (d : DropNo) (e : Entry), e = s.entry (stationAt n d) →
        t.entry (stationAt n d) = { e with
          state := if e.state = .present then .lost else e.state
          changed := e.changed || e.state == .present
          probeTick := if e.state = .present then s.tick else e.probeTick
          probeDue := e.probeDue || e.state == .present
          ackMark := mark e, fence := (t.entry (stationAt n d)).fence } ∧
        ∀ q : SeqNo, (t.entry (stationAt n d)).fence[q.val] =
          if ∃ r ∈ rs, (s.record r).station = stationAt n d ∧ (s.record r).seq = some q then
            some (s.tick + BitVec.ofNat 32 s.params.quarantineInterval) else e.fence[q.val]) ∧
      (t = s.linkOff n → (t.line n).link = .off ∧ ∀ (d : DropNo) (e : Entry), e = s.entry (stationAt n d) →
        ((e.state = .present ∨ e.state = .lost) → t.entry (stationAt n d) = { e with
          state := .absent, identity := none, window := none, replaced := false, failures := 0
          changed := e.changed || e.state == .present, probeTick := s.tick, probeDue := true
          ackMark := mark e, fence := Vector.replicate 16 none }) ∧
        ((e.state = .absent ∨ e.state = .disabled) → t.entry (stationAt n d) = { e with
          ackMark := mark e, fence := Vector.replicate 16 none })))

/-- R100, R104, R106 to R108: a character on an UP line, given whole [log 15] or sampled, in each receive condition:
ignored, taken as start byte, added to the frame, or the byte that shows a bad header or ends the frame; a bad
character gives up a frame in assembly alone. That after a stop bit sampled at space no character has begun, whatever
RXD did since, is the model's choice [log 32]. -/
def Obligations.Characters : Prop :=
  ∀ (s : State) (n : LineNo) (b : Byte), s.operating = true → (s.line n).link = .up →
    (∀ m c, (s.line n).phase = .none →
      s.charTaken n m c =
        { s.setLine n { s.line n with
            rx := c, phase := .none, quiet := 0
            spaceRun := if m = true ∨ s.pins.rxdMark[n.val] = true then 0 else (s.line n).spaceRun } with
          pins := { s.pins with rxdMark := s.pins.rxdMark.set n.val m } }) ∧
    (∀ m c d w, (s.line n).phase = .complete d w →
      s.charTaken n m c = s.setLine n { s.line n with
        rx := c, quiet := 0, phase := if m = true ∧ s.pins.rxdMark[n.val] = false then .armed else .none }) ∧
    ((s.line n).rx = .hunting →
      (b = 0xC5#8 → exec (.goodCharacter n b) s = .next (s.charTaken n true (.assembling []))) ∧
      (b ≠ 0xC5#8 → exec (.goodCharacter n b) s = .next (s.charTaken n true .hunting)) ∧
      exec (.charError n) s = .next (s.charTaken n false .hunting)) ∧
    ((s.line n).rx = .discarding →
      exec (.goodCharacter n b) s = .next (s.charTaken n true .discarding) ∧
      exec (.charError n) s = .next (s.charTaken n false .discarding)) ∧
    (∀ bs, (s.line n).rx = .assembling bs →
      exec (.charError n) s = .next
        ((s.charTaken n false .discarding).report (receiveReport .charError false n bs)) ∧
      (bs.length < 3 → exec (.goodCharacter n b) s = .next (s.charTaken n true (.assembling (bs ++ [b])))) ∧
      (bs.length = 3 →
        (headerGood (bs.getD 0 0#8) b = true →
          exec (.goodCharacter n b) s = .next (s.charTaken n true (.assembling (bs ++ [b])))) ∧
        (headerGood (bs.getD 0 0#8) b = false →
          exec (.goodCharacter n b) s = .next
            ((s.charTaken n true .discarding).report (receiveReport .formatError true n (bs ++ [b]))))) ∧
      (3 < bs.length → bs.length ≠ 5 + (bs.getD 3 0#8).toNat →
        exec (.goodCharacter n b) s = .next (s.charTaken n true (.assembling (bs ++ [b])))) ∧
      (∀ h1 h2 h3 h4 payload c1, bs = h1 :: h2 :: h3 :: h4 :: (payload ++ [c1]) → payload.length = h4.toNat →
        ([c1, b] ≠ checkBytes (h1 :: h2 :: h3 :: h4 :: payload) →
          exec (.goodCharacter n b) s = .next
            ((s.charTaken n true .hunting).report (receiveReport .checkError true n (bs ++ [b])))) ∧
        (∀ k, [c1, b] = checkBytes (h1 :: h2 :: h3 :: h4 :: payload) → kindOfHeader h1 = some k →
          exec (.goodCharacter n b) s = .next
            (takeFrame k n (fieldsOf h1 h2 h3 payload) (s.charTaken n true .hunting)))))

/-- R100, R104 to R108, R110, R117, R174: the receive errors with the fields they report, however far the frame got,
and the end of DISCARDING, which does not come while RESETTING is 1. A change of RXD's level may begin a character on
an UP line or undo one that no sample has shown. The detector's runs and the idle measure see it at their next sample
[log 25]. While the device does not operate only the level changes. -/
def Obligations.ReceiveErrors : Prop :=
  (∀ (s : State) (n : LineNo), s.operating = true → (s.line n).link = .up →
    (∀ h1 h2 h3 h4 : Byte,
      (h1.getLsbD 3 = true ∨ FrameKind.upstreamOfCode (h1.toNat / 16) = none ∨ 32 < h4.toNat) →
      s.receivable n [h1, h2, h3, h4] = true →
      exec (.formatError n h1 h2 h3 h4) s = .next
        ((s.charTaken n true .discarding).report
          { kind := .formatError, line := some n, drop := some ⟨h1.toNat % 8, by omega⟩
            seq := if h1.toNat / 16 = 9 ∨ h1.toNat / 16 = 10 then some (seqOfHeader h2) else none
            header := some [h1, h2, h3, h4], opcode := none })) ∧
    (∀ (h1 h2 h3 h4 c1 c2 : Byte) (payload : List Byte),
      h1.getLsbD 3 = false → FrameKind.upstreamOfCode (h1.toNat / 16) ≠ none → h4.toNat ≤ 32 →
      payload.length = h4.toNat → [c1, c2] ≠ checkBytes (h1 :: h2 :: h3 :: h4 :: payload) →
      s.receivable n (h1 :: h2 :: h3 :: h4 :: (payload ++ [c1, c2])) = true →
      exec (.checkError n h1 h2 h3 h4 payload c1 c2) s = .next
        ((s.charTaken n true .hunting).report
          { kind := .checkError, line := some n, drop := some ⟨h1.toNat % 8, by omega⟩
            seq := if h1.toNat / 16 = 9 ∨ h1.toNat / 16 = 10 then some (seqOfHeader h2) else none
            header := some [h1, h2, h3, h4], opcode := none })) ∧
    (∀ bs, (s.line n).rx = .assembling bs → s.pins.rxdMark[n.val] = true → (s.line n).phase = .none →
      exec (.receiveGapExpiry n) s = .next
        ((s.setLine n { s.line n with rx := .hunting }).report (receiveReport .formatError true n bs))) ∧
    ((s.line n).rx = .discarding → s.pins.rxdMark[n.val] = true → (s.line n).phase = .none →
      (s.resetting = false →
        exec (.discardIdleEnd n) s = .next (s.setLine n { s.line n with rx := .hunting })) ∧
      (s.resetting = true → exec (.discardIdleEnd n) s = .next s))) ∧
  (∀ (kind : ErrorKind) (carries : Bool) (n : LineNo) (bs : List Byte) (o : Occurrence),
    o = receiveReport kind carries n bs →
    o.kind = kind ∧ o.line = some n ∧ o.opcode = none ∧
    (bs = [] → o.drop = none ∧ o.seq = none) ∧
    (∀ h1 rest, bs = h1 :: rest → (∃ d : DropNo, d.val = h1.toNat % 8 ∧ o.drop = some d) ∧
      (rest = [] → o.seq = none) ∧
      (∀ h2 more, rest = h2 :: more →
        (h1.toNat / 16 = 9 ∨ h1.toNat / 16 = 10 → ∃ q : SeqNo, q.val = h2.toNat / 16 ∧ o.seq = some q) ∧
        (h1.toNat / 16 ≠ 9 → h1.toNat / 16 ≠ 10 → o.seq = none))) ∧
    (carries = false ∨ bs.length < 4 → o.header = none) ∧
    (carries = true → 4 ≤ bs.length → o.header = some (bs.take 4))) ∧
  (∀ (s : State) (n : LineNo),
    (s.operating = true → s.pins.rxdMark[n.val] = true →
      exec (.rxdTransition n) s = .next
        { s.setLine n { s.line n with
            phase := if (s.line n).link = .up ∧ (s.line n).phase = .none then .armed else (s.line n).phase } with
          pins := { s.pins with rxdMark := s.pins.rxdMark.set n.val false } }) ∧
    (s.operating = true → s.pins.rxdMark[n.val] = false →
      exec (.rxdTransition n) s = .next
        { s.setLine n { s.line n with
            phase := if (s.line n).phase = .armed then .none else (s.line n).phase } with
          pins := { s.pins with rxdMark := s.pins.rxdMark.set n.val true } }) ∧
    (s.operating = false →
      exec (.rxdTransition n) s = .next
        { s with pins := { s.pins with rxdMark := s.pins.rxdMark.set n.val (!s.pins.rxdMark[n.val]) } }))

/-! ### Frames from the stations (chapters 3, 7 and 9) -/

/-- R62, R76, R108, R121, R122, R126: a good REPLY that reaches no record, or is a duplicate, changes no record:
STRAY_FRAME without a sign of life when the station is not PRESENT; else a sign of life, with LATE_REPLY for a fenced
sequence and for a segment that a PARTIAL record has already, and UNEXPECTED_REPLY for a free sequence. The event of a
duplicate ends, like that of any frame that a record meets, with the line service's tests, which change no record, and
the arbiter's choice, which changes none that is not QUEUED. -/
def Obligations.ReplyNotAccepted : Prop :=
  ∀ (s : State) (n : LineNo) (f : UpFields) (st : StationIdx) (u v : State), st = stationAt n f.drop →
    f.payload.length ≤ 32 → s.receivable n (f.frame .reply).body = true →
    u = s.charTaken n true .hunting → v = u.setEntry st { u.entry st with failures := 0 } →
    ((s.entry st).state ≠ .present →
      exec (.reply n f) s = .next (u.report
        { kind := .strayFrame, line := some n, drop := some f.drop, seq := some f.seq
          header := some (f.frame .reply).header, opcode := none })) ∧
    ((s.entry st).state = .present →
      (∀ r, (s.record r).holds = true → (s.record r).station = st → (s.record r).seq ≠ some f.seq) →
      (((s.entry st).fence[f.seq.val]).isSome = true →
        exec (.reply n f) s = .next (v.report
          { kind := .lateReply, line := some n, drop := some f.drop, seq := some f.seq
            header := some (f.frame .reply).header, opcode := none })) ∧
      ((s.entry st).fence[f.seq.val] = none →
        exec (.reply n f) s = .next (v.report
          { kind := .unexpectedReply, line := some n, drop := some f.drop, seq := some f.seq
            header := some (f.frame .reply).header, opcode := none }))) ∧
    (∀ r, (s.entry st).state = .present → s.holder st f.seq = some r → (s.record r).state = .partly →
      f.segment.val < (s.record r).segments →
      exec (.reply n f) s = .next ((v.report
        { kind := .lateReply, line := some n, drop := some f.drop, seq := some f.seq
          header := some (f.frame .reply).header, opcode := none }).settle n) ∧
      ((v.report
        { kind := .lateReply, line := some n, drop := some f.drop, seq := some f.seq
          header := some (f.frame .reply).header, opcode := none }).serviceTests n).records = s.records ∧
      ∀ t, exec (.reply n f) s = .next t → s.DispatchLawful →
        ∀ i, (s.record i).state ≠ .queued → t.record i = s.record i)

/-- R72, R123 to R125, R127, R162, R167: a good REPLY delivered to the record that holds its sequence: the next segment
is appended and brings the record to PARTIAL, or with LAST to DONE; a segment out of order, a fifth one, one that
overruns 64 bytes, and any in DEFERRED end it in error. The report of the frame comes before what the line service
reports in the same event, an order that is the model's choice [log 26]. -/
def Obligations.ReplyDelivered : Prop :=
  ∀ (s : State) (n : LineNo) (f : UpFields) (st : StationIdx) (r : RecordIdx) (x : Record) (v : State),
    st = stationAt n f.drop → f.payload.length ≤ 32 → s.receivable n (f.frame .reply).body = true →
    v = (s.charTaken n true .hunting).signOfLife st → (s.entry st).state = .present →
    s.holder st f.seq = some r → x = s.record r →
    (x.state ≠ .deferred → f.segment.val = x.segments → ¬(f.segment = 3 ∧ f.last = false) →
      x.reply.length + f.payload.length ≤ 64 →
      (f.last = true →
        exec (.reply n f) s = .next
          (((v.setRecord r { x with
              reply := x.reply ++ f.payload, segments := x.segments + 1, status := some f.kindByte }).endRecords
                .done (decide (1 ≤ x.retriesUsed)) [r]).settle n)) ∧
      (f.last = false → x.state ≠ .queued →
        exec (.reply n f) s = .next
          ((v.setRecord r { x with
              state := .partly, reply := x.reply ++ f.payload, segments := x.segments + 1
              deadline := some
                { kind := .segment, expiry := s.tick + BitVec.ofNat 32 s.params.segmentInterval } }).settle n)) ∧
      (f.last = false → x.state = .queued →
        exec (.reply n f) s = .next
          ((((v.leaveDispatch r).setRecord r { x with
              state := .partly, reply := x.reply ++ f.payload, segments := x.segments + 1
              deadline := some
                { kind := .segment
                  expiry := s.tick + BitVec.ofNat 32 s.params.segmentInterval } }).returnToDraining n).settle n))) ∧
    ((x.state = .deferred ∨ x.segments < f.segment.val ∨
        (f.segment.val = x.segments ∧ f.segment = 3 ∧ f.last = false)) →
      exec (.reply n f) s = .next
        (((v.endRecords .segmentError true [r]).report
          { kind := .segmentError, line := some n, drop := some f.drop, seq := some f.seq
            header := some (f.frame .reply).header, opcode := none }).settle n)) ∧
    (x.state ≠ .deferred → f.segment.val = x.segments → ¬(f.segment = 3 ∧ f.last = false) →
      64 < x.reply.length + f.payload.length →
      exec (.reply n f) s = .next
        (((v.endRecords .replyOverrun true [r]).report
          { kind := .replyOverrun, line := some n, drop := some f.drop, seq := some f.seq
            header := some (f.frame .reply).header, opcode := none }).settle n))

/-- R76, R120 to R122, R129, R130: a good HOLDOFF: stray, late, unexpected, or delivered. Within HOLDOFF_LIMIT it
defers the record for the larger of 10 × hint and HOLDOFF_MINIMUM; beyond, the record ends with HELD_OFF; in PARTIAL it
is SEGMENT_ERROR, in DEFERRED a duplicate. The report of the frame comes before what the line service reports in the
same event, an order that is the model's choice [log 26]. -/
def Obligations.Holdoff : Prop :=
  ∀ (s : State) (n : LineNo) (f : UpFields) (st : StationIdx) (u v : State) (rep : ErrorKind → Occurrence),
    st = stationAt n f.drop → f.payload.length ≤ 32 → s.receivable n (f.frame .holdoff).body = true →
    u = s.charTaken n true .hunting → v = u.signOfLife st →
    (∀ k, rep k =
      { kind := k, line := some n, drop := some f.drop, seq := some f.seq
        header := some (f.frame .holdoff).header, opcode := none }) →
    ((s.entry st).state ≠ .present → exec (.holdoff n f) s = .next (u.report (rep .strayFrame))) ∧
    ((s.entry st).state = .present →
      (s.holder st f.seq = none →
        (s.fenced st f.seq = true → exec (.holdoff n f) s = .next (v.report (rep .lateReply))) ∧
        (s.fenced st f.seq = false → exec (.holdoff n f) s = .next (v.report (rep .unexpectedReply)))) ∧
      (∀ r x, s.holder st f.seq = some r → x = s.record r →
        (x.state = .deferred → exec (.holdoff n f) s = .next ((v.report (rep .lateReply)).settle n)) ∧
        (x.state = .partly →
          exec (.holdoff n f) s = .next
            (((v.endRecords .segmentError true [r]).report (rep .segmentError)).settle n)) ∧
        (x.state ≠ .deferred → x.state ≠ .partly →
          (s.params.holdoffLimit ≤ x.holdoffs →
            exec (.holdoff n f) s = .next ((v.endRecords .heldOff (decide (1 ≤ x.retriesUsed)) [r]).settle n)) ∧
          (x.holdoffs < s.params.holdoffLimit → ∀ y,
            y = { x with
              state := .deferred, holdoffs := x.holdoffs + 1
              deadline := some
                { kind := .holdoff
                  expiry := s.tick +
                    BitVec.ofNat 32 (max (10 * f.kindByte.toNat) s.params.holdoffMinimum) } } →
            (x.state ≠ .queued → exec (.holdoff n f) s = .next ((v.setRecord r y).settle n)) ∧
            (x.state = .queued →
              exec (.holdoff n f) s = .next
                ((((v.leaveDispatch r).setRecord r y).returnToDraining n).settle n))))))

/-- R47 to R49, R165: a good PROBE_ANSWER. A window of 0 or a payload not of 3 bytes is FORMAT_ERROR; from a PRESENT or
DISABLED station it is stray; otherwise it admits the station, with its identity and a window of at most 4, and a
line that awaits acknowledgements sends the station QUIESCE. -/
def Obligations.ProbeAnswer : Prop :=
  ∀ (s : State) (n : LineNo) (f : UpFields) (st : StationIdx) (u : State) (rep : ErrorKind → Occurrence),
    st = stationAt n f.drop → f.payload.length ≤ 32 → s.receivable n (f.frame .probeAnswer).body = true →
    u = s.charTaken n true .hunting →
    (∀ k, rep k =
      { kind := k, line := some n, drop := some f.drop, seq := none
        header := some (f.frame .probeAnswer).header, opcode := none }) →
    (f.kindByte = 0#8 ∨ f.payload.length ≠ 3 →
      exec (.probeAnswer n f) s = .next (u.report (rep .formatError))) ∧
    (∀ b1 b2 b3, f.kindByte ≠ 0#8 → f.payload = [b1, b2, b3] →
      ((s.entry st).state = .present →
        exec (.probeAnswer n f) s = .next ((u.signOfLife st).report (rep .strayFrame))) ∧
      ((s.entry st).state = .disabled → exec (.probeAnswer n f) s = .next (u.report (rep .strayFrame))) ∧
      ((s.entry st).state = .absent ∨ (s.entry st).state = .lost → ∀ e,
        e = { s.entry st with
          state := .present, identity := some { classCode := b1 ++ b2, revision := b3 }
          window := some (min 4 f.kindByte.toNat), failures := 0, changed := true, probeDue := false
          replaced := (s.entry st).replaced ||
            (match (s.entry st).identity with
              | none => false
              | some i => decide (i ≠ { classCode := b1 ++ b2, revision := b3 })) } →
        ((s.line n).service ≠ .awaitingAcks →
          exec (.probeAnswer n f) s = .next ((u.setEntry st e).settle n)) ∧
        ((s.line n).service = .awaitingAcks →
          exec (.probeAnswer n f) s = .next
            (((u.setEntry st { e with ackMark := false }).offer n (.quiesce f.drop)).settle n))))

/-- R52, R155 to R157, R164, R165: a good ATTENTION fills the presented slot, then the pending one, and is refused when
both are occupied; a good QUIESCE_ACK sets the station's mark while the line awaits acknowledgements or is QUIESCED.
Otherwise each is stray, and a sign of life from a PRESENT station only. -/
def Obligations.AttentionAndQuiesceAck : Prop :=
  ∀ (s : State) (n : LineNo) (f : UpFields) (st : StationIdx) (u v : State)
    (rep : FrameKind → ErrorKind → Occurrence),
    st = stationAt n f.drop → f.payload.length ≤ 32 →
    u = s.charTaken n true .hunting → v = u.setEntry st { u.entry st with failures := 0 } →
    (∀ g k, rep g k =
      { kind := k, line := some n, drop := some f.drop, seq := none
        header := some (f.frame g).header, opcode := none }) →
    (s.receivable n (f.frame .attention).body = true →
      ((s.entry st).state ≠ .present →
        exec (.attention n f) s = .next (u.report (rep .attention .strayFrame))) ∧
      ((s.entry st).state = .present →
        ((s.entry st).presented = none →
          exec (.attention n f) s = .next
            (u.setEntry st { u.entry st with failures := 0, presented := some f.kindByte })) ∧
        ((s.entry st).presented ≠ none → (s.entry st).pendingCause = none →
          exec (.attention n f) s = .next
            (u.setEntry st { u.entry st with failures := 0, pendingCause := some f.kindByte })) ∧
        ((s.entry st).presented ≠ none → (s.entry st).pendingCause ≠ none →
          exec (.attention n f) s = .next
            (((v.report (rep .attention .attentionRefused)).offer n (.attnRefused f.drop f.kindByte)).choose n)))) ∧
    (s.receivable n (f.frame .quiesceAck).body = true →
      ((s.entry st).state ≠ .present →
        exec (.quiesceAck n f) s = .next (u.report (rep .quiesceAck .strayFrame))) ∧
      ((s.entry st).state = .present →
        ((s.line n).service = .opened ∨ (s.line n).service = .draining →
          exec (.quiesceAck n f) s = .next (v.report (rep .quiesceAck .strayFrame))) ∧
        (∀ w, w = u.setEntry st { u.entry st with failures := 0, ackMark := true } →
          ((s.line n).service = .quiesced → exec (.quiesceAck n f) s = .next w) ∧
          ((s.line n).service = .awaitingAcks →
            ((∀ d, (w.entry (stationAt n d)).state = .present → (w.entry (stationAt n d)).ackMark = true) →
              exec (.quiesceAck n f) s = .next
                (w.setLine n { w.line n with
                  service := .quiesced, quiesceDeadline := none, quiesceOutcome := some .allAcked
                  quiesceFinished := true })) ∧
            ((∃ d, (w.entry (stationAt n d)).state = .present ∧ (w.entry (stationAt n d)).ackMark = false) →
              exec (.quiesceAck n f) s = .next w)))))

/-! ### Time (chapters 3, 4, 7 and 8) -/

/-- R93, R95, R99, R100, R103 to R106, R110, R112, R113, R117, R118: one period of the reference clock [log 1]: the
place in the tick, the mark run of a DOWN line, the space run and the idle measure of an UP one, the character being
sampled, and the place of each transmitter in its frame. The detector's runs count samples, the first at the level as
1, and the sample that brings a run to 4 character times of mark or 2 of space makes the link change due: the model's
choice [log 25]. That the idle measure stands still for a glitch until the middle of its start bit, with RXD back at
mark or not, and starts afresh at a sample at space in DISCARDING, is the model's choice too [log 14]. And when each
event of a line and the tick is due: a character once its stop bit has been sampled, the end of a gap or of DISCARDING
once RXD has been idle for more than 2 character times, the end of a frame once its character in progress has lasted
its 10 bit times and no other has begun, the tick with its last period. That a start transition taken first ends the
wait of a gap or of DISCARDING is the model's choice [log 30], and so is that the period which ends one character of a
frame begins the next, which a cut then finds in progress [log 34]. -/
def Obligations.ClockPeriod : Prop :=
  ∀ (s : State) (n : LineNo) (l : Line) (rate : Nat) (mark : Bool), s.operating = true →
    l = s.line n → rate = s.params.lineRate[n.val] → mark = s.pins.rxdMark[n.val] →
    s.clockPeriod.tickPhase = s.tickPhase + 1 ∧
    s.clockPeriod = { s with lines := s.clockPeriod.lines, tickPhase := s.clockPeriod.tickPhase } ∧
    (∃ a p, s.clockPeriod.line n =
        { l with
          tx := a, phase := p
          markRun := if l.link = .down then (if mark then l.markRun + 1 else 0) else l.markRun
          spaceRun := if l.link = .up then (if mark then 0 else l.spaceRun + 1) else l.spaceRun
          quiet :=
            if l.link = .up ∧ mark = true ∧ l.phase = .none then l.quiet + 1
            else if l.link = .up ∧ mark = false ∧ l.rx = .discarding then 0 else l.quiet } ∧
      (l.link ≠ .up → p = l.phase) ∧
      (l.link = .up →
        (l.phase = .none → p = .none) ∧
        (l.phase = .armed → p = if mark then .none else .bits 0 (rate / 2) 0#8) ∧
        (∀ k w d, l.phase = .bits k w d → 1 < w → p = .bits k (w - 1) d) ∧
        (∀ d, l.phase = .bits 0 1 d → p = if mark then .none else .bits 1 rate d) ∧
        (∀ (k : Fin 8) d, l.phase = .bits (k.val + 1) 1 d → ∃ b, p = .bits (k.val + 2) rate b ∧
          b.getLsbD k.val = (d.getLsbD k.val || mark) ∧ ∀ j, j ≠ k.val → b.getLsbD j = d.getLsbD j) ∧
        (∀ d, l.phase = .bits 9 1 d → p = .complete d mark) ∧
        (∀ d m, l.phase = .complete d m → p = .complete d m)) ∧
      (l.tx = .idle → a = .idle) ∧
      (∀ f h c, l.tx = .sending f h c →
        (c.elapsed + 1 < 10 * c.bitTime → a = .sending f h { c with elapsed := c.elapsed + 1 }) ∧
        (10 * c.bitTime ≤ c.elapsed + 1 → c.char + 1 < 7 + f.payload.length →
          a = .sending f h { c with char := c.char + 1, elapsed := 0 }) ∧
        (10 * c.bitTime ≤ c.elapsed + 1 → 7 + f.payload.length ≤ c.char + 1 →
          a = .sending f h { c with elapsed := c.elapsed + 1 })) ∧
      (∀ f c, l.tx = .stopping f c → a = .stopping f { c with elapsed := c.elapsed + 1 })) ∧
    (.linkUp n ∈ s.due ↔ l.link = .down ∧ 40 * rate ≤ l.markRun) ∧
    (.linkDown n ∈ s.due ↔ l.link = .up ∧ 20 * rate ≤ l.spaceRun) ∧
    (∀ b, .goodCharacter n b ∈ s.due ↔ l.link = .up ∧ l.phase = .complete b true) ∧
    (.charError n ∈ s.due ↔ l.link = .up ∧ ∃ b, l.phase = .complete b false) ∧
    (.receiveGapExpiry n ∈ s.due ↔
      l.link = .up ∧ mark = true ∧ l.phase = .none ∧ 20 * rate < l.quiet ∧ ∃ bs, l.rx = .assembling bs) ∧
    (.discardIdleEnd n ∈ s.due ↔
      l.link = .up ∧ mark = true ∧ l.phase = .none ∧ 20 * rate < l.quiet ∧ l.rx = .discarding ∧ s.resetting = false) ∧
    (.transmitEnd n ∈ s.due ↔ ∃ f h c, l.tx = .sending f h c ∧ 10 * c.bitTime ≤ c.elapsed) ∧
    (.stoppingEnd n ∈ s.due ↔ ∃ f c, l.tx = .stopping f c ∧ 10 * c.bitTime ≤ c.elapsed) ∧
    (.tick ∈ s.due ↔ s.tickLength ≤ s.tickPhase)

/-- R63, R74, R118, R119, R150: the tick boundary, and the expiries of a fence, a probe due tick and the idle timer:
each is due and acts once the boundary that ends its expiry tick has passed, and not before. Three points are the
model's: that a difference of half the range of the count is not yet passed, and that FENCE_EXPIRY empties every place
that is over in one event [log 12], and that an entry becomes due at the boundary that ends its probe due tick [log
10]. -/
def Obligations.TickAndExpiries : Prop :=
  ∀ s : State, s.operating = true →
    exec .tick s = .next { s with tick := s.tick + 1, tickPhase := 0, tickLength := s.params.tickDivider } ∧
    (∀ e : Tick, s.passed e = true ↔ 0 < (s.tick - e).toNat ∧ (s.tick - e).toNat < 2147483648) ∧
    (∀ st : StationIdx,
      (∀ (q : SeqNo) (e : Tick), (s.entry st).fence[q.val] = some e → s.passed e = true →
        ∃ u : State, exec (.fenceExpiry st) s = .next (u.choose (lineOf st)) ∧
          u = s.setEntry st { s.entry st with fence := (u.entry st).fence } ∧
          ∀ p : SeqNo, (u.entry st).fence[p.val] =
            ((s.entry st).fence[p.val]).bind (fun e => if s.passed e then none else some e)) ∧
      ((∀ (q : SeqNo) (e : Tick), (s.entry st).fence[q.val] = some e → s.passed e = false) →
        exec (.fenceExpiry st) s = .next s) ∧
      ((s.entry st).state = .absent ∨ (s.entry st).state = .lost → (s.entry st).probeDue = false →
        (s.passed (s.entry st).probeTick = true →
          exec (.probeDue st) s = .next
            (((s.setEntry st { s.entry st with probeDue := true }).probeSweep (lineOf st)).choose (lineOf st))) ∧
        (s.passed (s.entry st).probeTick = false → exec (.probeDue st) s = .next s))) ∧
    (∀ e : Tick, s.idleTimer = some e →
      (s.passed e = true → s.completionQ ≠ [] →
        exec .idleTimerExpiry s = .next { s with signalC := true, idleTimer := none }) ∧
      (s.passed e = false → exec .idleTimerExpiry s = .next s)) ∧
    (s.idleTimer = none → exec .idleTimerExpiry s = .next s) ∧
    (∀ st : StationIdx,
      (.fenceExpiry st ∈ s.due ↔
        ∃ (q : SeqNo) (e : Tick), (s.entry st).fence[q.val] = some e ∧ s.passed e = true) ∧
      (.probeDue st ∈ s.due ↔
        ((s.entry st).state = .absent ∨ (s.entry st).state = .lost) ∧ (s.entry st).probeDue = false ∧
          s.passed (s.entry st).probeTick = true)) ∧
    (.idleTimerExpiry ∈ s.due ↔ ∃ e, s.idleTimer = some e ∧ s.passed e = true)

/-- R7, R53, R54, R119, R131 to R135: the expiries of the record deadlines. A REPLY deadline counts a failure, then
loses the station, retries at the head of the class with the sequence kept, or times out; a SEGMENT deadline never
retries; a HOLDOFF deadline queues the record again and counts none. Each is due from the boundary that ends its expiry
tick on, and none acts before. That a threshold of 1 loses the station also on the expiry that follows a good frame is
the model's choice between R53 and R55 [log 27]. -/
def Obligations.RecordDeadlines : Prop :=
  (∀ (s : State) (r : RecordIdx) (d : Deadline) (st : StationIdx) (u : State), s.operating = true →
    (s.record r).deadline = some d → st = (s.record r).station →
    u = s.setEntry st { s.entry st with failures := (s.entry st).failures + 1 } →
    (s.passed d.expiry = false →
      exec (.replyDeadlineExpiry r) s = .next s ∧ exec (.segmentDeadlineExpiry r) s = .next s ∧
      exec (.holdoffDeadlineExpiry r) s = .next s) ∧
    (s.passed d.expiry = true →
      (d.kind = .reply → (s.record r).state = .sent →
        (s.params.lossThreshold ≤ (s.entry st).failures + 1 →
          exec (.replyDeadlineExpiry r) s = .next (u.loseStation st)) ∧
        ((s.entry st).failures + 1 < s.params.lossThreshold →
          ((s.record r).retriesUsed < (s.record r).retryBudget →
            exec (.replyDeadlineExpiry r) s = .next
              (((u.setRecord r { s.record r with retriesUsed := (s.record r).retriesUsed + 1 }).queueAtHead r).settle
                (lineOf st))) ∧
          ((s.record r).retryBudget ≤ (s.record r).retriesUsed →
            exec (.replyDeadlineExpiry r) s = .next ((u.endRecords .timeout true [r]).settle (lineOf st))))) ∧
      (d.kind = .segment → (s.record r).state = .partly →
        (s.params.lossThreshold ≤ (s.entry st).failures + 1 →
          exec (.segmentDeadlineExpiry r) s = .next (u.loseStation st)) ∧
        ((s.entry st).failures + 1 < s.params.lossThreshold →
          exec (.segmentDeadlineExpiry r) s = .next ((u.endRecords .timeout true [r]).settle (lineOf st)))) ∧
      (d.kind = .holdoff → (s.record r).state = .deferred →
        exec (.holdoffDeadlineExpiry r) s = .next ((s.queueAtHead r).settle (lineOf st)))) ∧
    u.loseStation st =
      ((((u.endRecords .stationLost true (s.liveWhere (fun x => x.station == st))).setEntry st
        { (u.endRecords .stationLost true (s.liveWhere (fun x => x.station == st))).entry st with
          state := .lost, changed := true, probeTick := s.tick, probeDue := true }).probeSweep (lineOf st)).settle
            (lineOf st))) ∧
  (∀ (s : State) (r : RecordIdx), s.operating = true →
    (.replyDeadlineExpiry r ∈ s.due ↔
      (s.record r).state = .sent ∧ ∃ e, (s.record r).deadline = some ⟨.reply, e⟩ ∧ s.passed e = true) ∧
    (.segmentDeadlineExpiry r ∈ s.due ↔
      (s.record r).state = .partly ∧ ∃ e, (s.record r).deadline = some ⟨.segment, e⟩ ∧ s.passed e = true) ∧
    (.holdoffDeadlineExpiry r ∈ s.due ↔
      (s.record r).state = .deferred ∧ ∃ e, (s.record r).deadline = some ⟨.holdoff, e⟩ ∧ s.passed e = true))

/-! ### What every state keeps -/

/-- R67, R98, R117, R118, R154, R171, R172, R182, R184, R204: what the manual states of the state after power-on and
pin reset, beside the records (the probe due tick and its standing among the fields of an entry are the model's choice
[log 22]); and this state is lawful, with its attention slots ordered, its queues, counters, counts and parameters in
bounds, its sequences and its completion signal as their laws say. -/
def Obligations.ResetValuesAndLaws : Prop :=
  (∀ st, State.reset.entry st =
    { state := .absent, identity := none, window := none, replaced := false, failures := 0, cursor := 0
      fence := Vector.replicate 16 none, presented := none, pendingCause := none, probeTick := 0, probeDue := false
      ackMark := false, changed := false }) ∧
  (∀ n, (State.reset.line n).link = .off ∧ (State.reset.line n).tx = .idle ∧ (State.reset.line n).controlQ = [] ∧
    (State.reset.line n).dispatchQ = [] ∧ (State.reset.line n).resetWaiting = false ∧
    (State.reset.line n).service = .opened ∧ (State.reset.line n).quiesceDeadline = none ∧
    (State.reset.line n).quiesceOutcome = none ∧ (State.reset.line n).quiesceFinished = false) ∧
  State.reset.completionQ = [] ∧ State.reset.signalC = false ∧ State.reset.idleTimer = none ∧
  State.reset.faults =
    { counters := Vector.replicate 11 0, alerts := Vector.replicate 11 false, capture := none, further := 0 } ∧
  State.reset.tick = 0 ∧ State.reset.statusByte = 0#8 ∧
  State.reset.noteAsserted = false ∧ State.reset.faultAsserted = false ∧ State.reset.sdo = none ∧
  State.reset.params.tickDivider = 1600 ∧
  (∀ n : LineNo, State.reset.params.lineRate[n.val] = 139 ∧ State.reset.params.windowLimit[n.val] = 4 ∧
    State.reset.params.probeInterval[n.val] = 10000 ∧ State.reset.params.lineEnable[n.val] = false) ∧
  State.reset.params.deadlineClass = #v[100, 500, 2000, 10000] ∧ State.reset.params.segmentInterval = 50 ∧
  State.reset.params.holdoffMinimum = 100 ∧ State.reset.params.holdoffLimit = 8 ∧
  State.reset.params.quarantineInterval = 2000 ∧ State.reset.params.lossThreshold = 3 ∧
  State.reset.params.urgentReserve = 4 ∧ State.reset.params.coalesceCount = 1 ∧ State.reset.params.coalesceIdle = 10 ∧
  State.reset.params.quiesceDeadline = 5000 ∧ State.reset.params.noteEnable = 14#4 ∧
  (∀ k : ErrorKind, State.reset.params.errorClass[k.code.val] = .alert ↔
    k = .unexpectedReply ∨ k = .segmentError ∨ k = .replyOverrun ∨ k = .controlDropped ∨ k = .commandError) ∧
  (∀ k : Fin 11, State.reset.params.faultEnable[k.val] = true) ∧
  State.reset.Lawful ∧ State.reset.SlotsOrdered ∧ State.reset.ControlBounded ∧ State.reset.faults.Bounded ∧
  State.reset.params.InRange ∧ State.reset.RecordsCounted ∧ State.reset.HeldLawful ∧ State.reset.SignalLawful

/-- R86, R155, R172: every step keeps the control queues at 16 frames or fewer, the counters and the further count at
255 or below, and the pending attention slot empty while the presented one is. -/
def Obligations.BoundsKept : Prop :=
  ∀ s t : State, s.ControlBounded → s.faults.Bounded → s.SlotsOrdered → step s = .next t →
    t.ControlBounded ∧ t.faults.Bounded ∧ t.SlotsOrdered

/-- R1, R4, R6, R7, R15, R29, R57, R83, R88, R141: every step keeps the laws of the Exchange Table, the dispatch
queues, the completion queue, the reserved record, the live records' stations and lines, and the port, whose bytes are
all counted. -/
def Obligations.LawfulKept : Prop :=
  ∀ s t : State, s.Lawful → step s = .next t → t.Lawful

/-- R3, R5, R192, R204: every step keeps every parameter in its range, the retries within their budget of at most 3,
the holdoffs at 15 or below, the transmissions at 1 plus these or below, every reply at 64 bytes or fewer in at most 4
segments, and a station status in DONE records alone. -/
def Obligations.RecordCountsKept : Prop :=
  ∀ s t : State, s.Lawful → s.params.InRange → s.RecordsCounted → step s = .next t →
    t.params.InRange ∧ t.RecordsCounted

/-- R50, R51, R70, R71: in every step the records that hold a sequence of a station stay within its effective window
and at most four, no two of them hold the same one, and none that is held is fenced. -/
def Obligations.HeldSequencesKept : Prop :=
  ∀ s t : State, s.Lawful → s.params.InRange → s.HeldLawful → step s = .next t → t.HeldLawful

/-- R149 to R152: every step keeps C set while COALESCE_COUNT records or an URGENT one wait in the completion queue,
and keeps C clear and the idle timer stopped while the queue is empty. -/
def Obligations.CompletionSignalKept : Prop :=
  ∀ s t : State, s.Lawful → s.params.InRange → s.SignalLawful → step s = .next t → t.SignalLawful

/-- R101, R102, R104, R108, R109, R202: a good upstream frame given whole is the same as those of its characters, start
byte, header, payload and check, that have not yet arrived, given one by one: all of them to a receiver that is
HUNTING, and the rest to one that is ASSEMBLING the frame [log 6]. -/
def Obligations.FrameIsItsCharacters : Prop :=
  ∀ (s : State) (n : LineNo) (f : UpFields) (k : FrameKind) (c : Instr) (rest : List Byte),
    s.operating = true → (s.line n).link = .up → (∀ d m, (s.line n).phase ≠ .complete d m) →
    f.payload.length ≤ 32 →
    ((k = .reply ∧ c = .reply n f) ∨ (k = .holdoff ∧ c = .holdoff n f) ∨ (k = .probeAnswer ∧ c = .probeAnswer n f) ∨
      (k = .attention ∧ c = .attention n f) ∨ (k = .quiesceAck ∧ c = .quiesceAck n f)) →
    (((s.line n).rx = .hunting ∧ rest = (f.frame k).wire) ∨
      ∃ i, i < (f.frame k).body.length ∧ (s.line n).rx = .assembling ((f.frame k).body.take i) ∧
        rest = (f.frame k).body.drop i) →
    exec c s = rest.foldl
      (fun (o : Host.Outcome State Fault Refusal) b =>
        match o with
        | .next t => exec (.goodCharacter n b) t
        | .fault e => .fault e
        | .refused e => .refused e)
      (.next s)

/-- R26, R92, R101, R102, R199, R202, R203: the four header bytes of every frame, and the characters of its wire form,
with the check: the register begins with all ones, takes each byte from its most significant bit, shifts with the
generator x^16 + x^12 + x^5 + 1, and is sent high byte first. The
fields of each downstream frame, a REQUEST with REPEAT exactly when the record was transmitted before. The header of an
upstream frame, read again, gives the frame's kind and fields, and passes the header check. A POST header is read field
by field, or fails when a field is out of range or a fixed bit is set. Every opcode byte names its instruction, and no
other byte names one. -/
def Obligations.HeadersAndOpcodesReadBack : Prop :=
  (∀ bs : List Byte,
    checkBytes bs = [highByte (crc16 bs).toNat, lowByte (crc16 bs).toNat] ∧
    crc16 bs = (bs.flatMap (fun b => (List.range 8).map (fun k => b.getLsbD (7 - k)))).foldl
      (fun (c : BitVec 16) i => if (c.msb != i) = true then (c <<< 1) ^^^ 0x1021#16 else c <<< 1) 0xFFFF#16) ∧
  (∀ f : Frame, f.payload.length ≤ 32 →
    f.wire = 0xC5#8 :: (f.header ++ f.payload ++ checkBytes (f.header ++ f.payload)) ∧
    ∃ h1 h2 h3 h4, f.header = [h1, h2, h3, h4] ∧
      h1.toNat / 16 = (match f.kind with
        | .request => 1 | .abandon => 2 | .probe => 3 | .quiesce => 4 | .attnRefused => 5
        | .reply => 9 | .holdoff => 10 | .probeAnswer => 11 | .attention => 12 | .quiesceAck => 13) ∧
      h1.getLsbD 3 = false ∧ h1.toNat % 8 = f.drop.val ∧
      h2.toNat / 16 = f.seq.val ∧ h2.getLsbD 3 = f.last ∧ h2.getLsbD 2 = f.rep ∧ h2.toNat % 4 = f.segment.val ∧
      h3 = f.kindByte ∧ h4.toNat = f.payload.length) ∧
  (∀ (x : Record) (q : SeqNo), x.requestFrame q =
    { kind := .request, drop := dropOf x.station, seq := q, segment := 0, last := true
      rep := decide (1 ≤ x.transmissions), kindByte := byteOf x.opClass.val, payload := x.payload }) ∧
  (∀ (d : DropNo) (q : SeqNo) (c : Byte),
    (ControlFrame.abandon d q).frame =
      { kind := .abandon, drop := d, seq := q, segment := 0, last := true, rep := false, kindByte := 0, payload := [] } ∧
    (ControlFrame.probe d).frame =
      { kind := .probe, drop := d, seq := 0, segment := 0, last := true, rep := false, kindByte := 0, payload := [] } ∧
    (ControlFrame.quiesce d).frame =
      { kind := .quiesce, drop := d, seq := 0, segment := 0, last := true, rep := false, kindByte := 0, payload := [] } ∧
    (ControlFrame.attnRefused d c).frame =
      { kind := .attnRefused, drop := d, seq := 0, segment := 0, last := true, rep := false, kindByte := c
        payload := [] }) ∧
  (∀ (f : UpFields) (k : FrameKind), f.payload.length ≤ 32 →
    k = .reply ∨ k = .holdoff ∨ k = .probeAnswer ∨ k = .attention ∨ k = .quiesceAck →
    ∃ h1 h2 h3 h4, (f.frame k).header = [h1, h2, h3, h4] ∧ headerGood h1 h4 = true ∧ kindOfHeader h1 = some k ∧
      fieldsOf h1 h2 h3 f.payload = f ∧ h4.toNat = f.payload.length) ∧
  (∀ h1 h2 h3 h4 : Byte,
    (64 ≤ h1.toNat ∨ h2.toNat / 16 % 8 ≠ 0 ∨ 3 < h3.toNat / 16 ∨ 3 < h3.toNat % 16 ∨ 32 < h4.toNat →
      parsePostHeader h1 h2 h3 h4 = none) ∧
    (∀ st : StationIdx, h1.toNat = st.val → h2.toNat / 16 % 8 = 0 → h3.toNat / 16 ≤ 3 → h3.toNat % 16 ≤ 3 →
      h4.toNat ≤ 32 →
      ∃ h, parsePostHeader h1 h2 h3 h4 = some h ∧ h.station = st ∧ (h.priority = .urgent ↔ h2.getLsbD 7 = true) ∧
        h.opClass.val = h2.toNat % 16 ∧ h.retryBudget = h3.toNat / 16 ∧ h.deadlineClass.val = h3.toNat % 16 ∧
        h.length = h4.toNat)) ∧
  (∀ o : Opcode, Opcode.ofByte o.code = some o) ∧
  (∀ (b : Byte) (o : Opcode), Opcode.ofByte b = some o → b = o.code)
end

