-- ==== Sys2Proof/Laws/State.lean ====
section
/-!
SUPPORT. The small lemmas of State: one per field per update, true by definition, and the reading of one record,
entry or line after one has been written.
-/

namespace Sys2Proof.Machine

/-! ### One field after one update -/

@[simp] theorem State.setRecord_stations (s : State) (r : RecordIdx) (x : Record) : (s.setRecord r x).stations = s.stations := rfl
@[simp] theorem State.setRecord_lines (s : State) (r : RecordIdx) (x : Record) : (s.setRecord r x).lines = s.lines := rfl
@[simp] theorem State.setRecord_completionQ (s : State) (r : RecordIdx) (x : Record) : (s.setRecord r x).completionQ = s.completionQ := rfl
@[simp] theorem State.setRecord_signalC (s : State) (r : RecordIdx) (x : Record) : (s.setRecord r x).signalC = s.signalC := rfl
@[simp] theorem State.setRecord_idleTimer (s : State) (r : RecordIdx) (x : Record) : (s.setRecord r x).idleTimer = s.idleTimer := rfl
@[simp] theorem State.setRecord_faults (s : State) (r : RecordIdx) (x : Record) : (s.setRecord r x).faults = s.faults := rfl
@[simp] theorem State.setRecord_params (s : State) (r : RecordIdx) (x : Record) : (s.setRecord r x).params = s.params := rfl
@[simp] theorem State.setRecord_tick (s : State) (r : RecordIdx) (x : Record) : (s.setRecord r x).tick = s.tick := rfl
@[simp] theorem State.setRecord_tickPhase (s : State) (r : RecordIdx) (x : Record) : (s.setRecord r x).tickPhase = s.tickPhase := rfl
@[simp] theorem State.setRecord_tickLength (s : State) (r : RecordIdx) (x : Record) : (s.setRecord r x).tickLength = s.tickLength := rfl
@[simp] theorem State.setRecord_port (s : State) (r : RecordIdx) (x : Record) : (s.setRecord r x).port = s.port := rfl
@[simp] theorem State.setRecord_resetting (s : State) (r : RecordIdx) (x : Record) : (s.setRecord r x).resetting = s.resetting := rfl
@[simp] theorem State.setRecord_pins (s : State) (r : RecordIdx) (x : Record) : (s.setRecord r x).pins = s.pins := rfl
@[simp] theorem State.setRecord_power (s : State) (r : RecordIdx) (x : Record) : (s.setRecord r x).power = s.power := rfl
@[simp] theorem State.setRecord_choices (s : State) (r : RecordIdx) (x : Record) : (s.setRecord r x).choices = s.choices := rfl
@[simp] theorem State.setRecord_pending (s : State) (r : RecordIdx) (x : Record) : (s.setRecord r x).pending = s.pending := rfl

@[simp] theorem State.setEntry_records (s : State) (st : StationIdx) (e : Entry) : (s.setEntry st e).records = s.records := rfl
@[simp] theorem State.setEntry_lines (s : State) (st : StationIdx) (e : Entry) : (s.setEntry st e).lines = s.lines := rfl
@[simp] theorem State.setEntry_completionQ (s : State) (st : StationIdx) (e : Entry) : (s.setEntry st e).completionQ = s.completionQ := rfl
@[simp] theorem State.setEntry_signalC (s : State) (st : StationIdx) (e : Entry) : (s.setEntry st e).signalC = s.signalC := rfl
@[simp] theorem State.setEntry_idleTimer (s : State) (st : StationIdx) (e : Entry) : (s.setEntry st e).idleTimer = s.idleTimer := rfl
@[simp] theorem State.setEntry_faults (s : State) (st : StationIdx) (e : Entry) : (s.setEntry st e).faults = s.faults := rfl
@[simp] theorem State.setEntry_params (s : State) (st : StationIdx) (e : Entry) : (s.setEntry st e).params = s.params := rfl
@[simp] theorem State.setEntry_tick (s : State) (st : StationIdx) (e : Entry) : (s.setEntry st e).tick = s.tick := rfl
@[simp] theorem State.setEntry_tickPhase (s : State) (st : StationIdx) (e : Entry) : (s.setEntry st e).tickPhase = s.tickPhase := rfl
@[simp] theorem State.setEntry_tickLength (s : State) (st : StationIdx) (e : Entry) : (s.setEntry st e).tickLength = s.tickLength := rfl
@[simp] theorem State.setEntry_port (s : State) (st : StationIdx) (e : Entry) : (s.setEntry st e).port = s.port := rfl
@[simp] theorem State.setEntry_resetting (s : State) (st : StationIdx) (e : Entry) : (s.setEntry st e).resetting = s.resetting := rfl
@[simp] theorem State.setEntry_pins (s : State) (st : StationIdx) (e : Entry) : (s.setEntry st e).pins = s.pins := rfl
@[simp] theorem State.setEntry_power (s : State) (st : StationIdx) (e : Entry) : (s.setEntry st e).power = s.power := rfl
@[simp] theorem State.setEntry_choices (s : State) (st : StationIdx) (e : Entry) : (s.setEntry st e).choices = s.choices := rfl
@[simp] theorem State.setEntry_pending (s : State) (st : StationIdx) (e : Entry) : (s.setEntry st e).pending = s.pending := rfl

@[simp] theorem State.setLine_records (s : State) (n : LineNo) (l : Line) : (s.setLine n l).records = s.records := rfl
@[simp] theorem State.setLine_stations (s : State) (n : LineNo) (l : Line) : (s.setLine n l).stations = s.stations := rfl
@[simp] theorem State.setLine_completionQ (s : State) (n : LineNo) (l : Line) : (s.setLine n l).completionQ = s.completionQ := rfl
@[simp] theorem State.setLine_signalC (s : State) (n : LineNo) (l : Line) : (s.setLine n l).signalC = s.signalC := rfl
@[simp] theorem State.setLine_idleTimer (s : State) (n : LineNo) (l : Line) : (s.setLine n l).idleTimer = s.idleTimer := rfl
@[simp] theorem State.setLine_faults (s : State) (n : LineNo) (l : Line) : (s.setLine n l).faults = s.faults := rfl
@[simp] theorem State.setLine_params (s : State) (n : LineNo) (l : Line) : (s.setLine n l).params = s.params := rfl
@[simp] theorem State.setLine_tick (s : State) (n : LineNo) (l : Line) : (s.setLine n l).tick = s.tick := rfl
@[simp] theorem State.setLine_tickPhase (s : State) (n : LineNo) (l : Line) : (s.setLine n l).tickPhase = s.tickPhase := rfl
@[simp] theorem State.setLine_tickLength (s : State) (n : LineNo) (l : Line) : (s.setLine n l).tickLength = s.tickLength := rfl
@[simp] theorem State.setLine_port (s : State) (n : LineNo) (l : Line) : (s.setLine n l).port = s.port := rfl
@[simp] theorem State.setLine_resetting (s : State) (n : LineNo) (l : Line) : (s.setLine n l).resetting = s.resetting := rfl
@[simp] theorem State.setLine_pins (s : State) (n : LineNo) (l : Line) : (s.setLine n l).pins = s.pins := rfl
@[simp] theorem State.setLine_power (s : State) (n : LineNo) (l : Line) : (s.setLine n l).power = s.power := rfl
@[simp] theorem State.setLine_choices (s : State) (n : LineNo) (l : Line) : (s.setLine n l).choices = s.choices := rfl
@[simp] theorem State.setLine_pending (s : State) (n : LineNo) (l : Line) : (s.setLine n l).pending = s.pending := rfl

@[simp] theorem State.report_records (s : State) (o : Occurrence) : (s.report o).records = s.records := rfl
@[simp] theorem State.report_stations (s : State) (o : Occurrence) : (s.report o).stations = s.stations := rfl
@[simp] theorem State.report_lines (s : State) (o : Occurrence) : (s.report o).lines = s.lines := rfl
@[simp] theorem State.report_completionQ (s : State) (o : Occurrence) : (s.report o).completionQ = s.completionQ := rfl
@[simp] theorem State.report_signalC (s : State) (o : Occurrence) : (s.report o).signalC = s.signalC := rfl
@[simp] theorem State.report_idleTimer (s : State) (o : Occurrence) : (s.report o).idleTimer = s.idleTimer := rfl
@[simp] theorem State.report_params (s : State) (o : Occurrence) : (s.report o).params = s.params := rfl
@[simp] theorem State.report_tick (s : State) (o : Occurrence) : (s.report o).tick = s.tick := rfl
@[simp] theorem State.report_tickPhase (s : State) (o : Occurrence) : (s.report o).tickPhase = s.tickPhase := rfl
@[simp] theorem State.report_tickLength (s : State) (o : Occurrence) : (s.report o).tickLength = s.tickLength := rfl
@[simp] theorem State.report_port (s : State) (o : Occurrence) : (s.report o).port = s.port := rfl
@[simp] theorem State.report_resetting (s : State) (o : Occurrence) : (s.report o).resetting = s.resetting := rfl
@[simp] theorem State.report_pins (s : State) (o : Occurrence) : (s.report o).pins = s.pins := rfl
@[simp] theorem State.report_power (s : State) (o : Occurrence) : (s.report o).power = s.power := rfl
@[simp] theorem State.report_choices (s : State) (o : Occurrence) : (s.report o).choices = s.choices := rfl
@[simp] theorem State.report_pending (s : State) (o : Occurrence) : (s.report o).pending = s.pending := rfl

@[simp] theorem State.respond_records (s : State) (bs : List Byte) : (s.respond bs).records = s.records := rfl
@[simp] theorem State.respond_stations (s : State) (bs : List Byte) : (s.respond bs).stations = s.stations := rfl
@[simp] theorem State.respond_lines (s : State) (bs : List Byte) : (s.respond bs).lines = s.lines := rfl
@[simp] theorem State.respond_completionQ (s : State) (bs : List Byte) : (s.respond bs).completionQ = s.completionQ := rfl
@[simp] theorem State.respond_signalC (s : State) (bs : List Byte) : (s.respond bs).signalC = s.signalC := rfl
@[simp] theorem State.respond_idleTimer (s : State) (bs : List Byte) : (s.respond bs).idleTimer = s.idleTimer := rfl
@[simp] theorem State.respond_faults (s : State) (bs : List Byte) : (s.respond bs).faults = s.faults := rfl
@[simp] theorem State.respond_params (s : State) (bs : List Byte) : (s.respond bs).params = s.params := rfl
@[simp] theorem State.respond_tick (s : State) (bs : List Byte) : (s.respond bs).tick = s.tick := rfl
@[simp] theorem State.respond_tickPhase (s : State) (bs : List Byte) : (s.respond bs).tickPhase = s.tickPhase := rfl
@[simp] theorem State.respond_tickLength (s : State) (bs : List Byte) : (s.respond bs).tickLength = s.tickLength := rfl
@[simp] theorem State.respond_resetting (s : State) (bs : List Byte) : (s.respond bs).resetting = s.resetting := rfl
@[simp] theorem State.respond_pins (s : State) (bs : List Byte) : (s.respond bs).pins = s.pins := rfl
@[simp] theorem State.respond_power (s : State) (bs : List Byte) : (s.respond bs).power = s.power := rfl
@[simp] theorem State.respond_choices (s : State) (bs : List Byte) : (s.respond bs).choices = s.choices := rfl
@[simp] theorem State.respond_pending (s : State) (bs : List Byte) : (s.respond bs).pending = s.pending := rfl

/-! ### Views after an update of another part -/

@[simp] theorem State.entry_setRecord (s : State) (r : RecordIdx) (x : Record) (i : StationIdx) : (s.setRecord r x).entry i = s.entry i := rfl
@[simp] theorem State.line_setRecord (s : State) (r : RecordIdx) (x : Record) (i : LineNo) : (s.setRecord r x).line i = s.line i := rfl
@[simp] theorem State.record_setEntry (s : State) (st : StationIdx) (e : Entry) (i : RecordIdx) : (s.setEntry st e).record i = s.record i := rfl
@[simp] theorem State.line_setEntry (s : State) (st : StationIdx) (e : Entry) (i : LineNo) : (s.setEntry st e).line i = s.line i := rfl
@[simp] theorem State.record_setLine (s : State) (n : LineNo) (l : Line) (i : RecordIdx) : (s.setLine n l).record i = s.record i := rfl
@[simp] theorem State.entry_setLine (s : State) (n : LineNo) (l : Line) (i : StationIdx) : (s.setLine n l).entry i = s.entry i := rfl
@[simp] theorem State.record_report (s : State) (o : Occurrence) (i : RecordIdx) : (s.report o).record i = s.record i := rfl
@[simp] theorem State.entry_report (s : State) (o : Occurrence) (i : StationIdx) : (s.report o).entry i = s.entry i := rfl
@[simp] theorem State.line_report (s : State) (o : Occurrence) (i : LineNo) : (s.report o).line i = s.line i := rfl
@[simp] theorem State.record_respond (s : State) (bs : List Byte) (i : RecordIdx) : (s.respond bs).record i = s.record i := rfl
@[simp] theorem State.entry_respond (s : State) (bs : List Byte) (i : StationIdx) : (s.respond bs).entry i = s.entry i := rfl
@[simp] theorem State.line_respond (s : State) (bs : List Byte) (i : LineNo) : (s.respond bs).line i = s.line i := rfl

/-! ### Reading back what was written -/

theorem State.record_setRecord (s : State) (i j : RecordIdx) (x : Record) :
    (s.setRecord i x).record j = if j = i then x else s.record j := by
  simp only [State.record, State.setRecord, Vector.getElem_set, Fin.ext_iff, eq_comm (a := j.val)]

@[simp] theorem State.record_setRecord_self (s : State) (i : RecordIdx) (x : Record) : (s.setRecord i x).record i = x := by
  simp [State.record_setRecord]

theorem State.record_setRecord_ne (s : State) {i j : RecordIdx} (h : j ≠ i) (x : Record) :
    (s.setRecord i x).record j = s.record j := by
  simp [State.record_setRecord, h]

@[simp] theorem State.setRecord_record_eq (s : State) (i : RecordIdx) : s.setRecord i (s.record i) = s := by
  cases s; simp [State.setRecord, State.record]

@[simp] theorem State.setRecord_twice (s : State) (i : RecordIdx) (x y : Record) :
    (s.setRecord i x).setRecord i y = s.setRecord i y := by
  simp [State.setRecord]

theorem State.entry_setEntry (s : State) (i j : StationIdx) (x : Entry) :
    (s.setEntry i x).entry j = if j = i then x else s.entry j := by
  simp only [State.entry, State.setEntry, Vector.getElem_set, Fin.ext_iff, eq_comm (a := j.val)]

@[simp] theorem State.entry_setEntry_self (s : State) (i : StationIdx) (x : Entry) : (s.setEntry i x).entry i = x := by
  simp [State.entry_setEntry]

theorem State.entry_setEntry_ne (s : State) {i j : StationIdx} (h : j ≠ i) (x : Entry) :
    (s.setEntry i x).entry j = s.entry j := by
  simp [State.entry_setEntry, h]

@[simp] theorem State.setEntry_entry_eq (s : State) (i : StationIdx) : s.setEntry i (s.entry i) = s := by
  cases s; simp [State.setEntry, State.entry]

@[simp] theorem State.setEntry_twice (s : State) (i : StationIdx) (x y : Entry) :
    (s.setEntry i x).setEntry i y = s.setEntry i y := by
  simp [State.setEntry]

theorem State.line_setLine (s : State) (i j : LineNo) (x : Line) :
    (s.setLine i x).line j = if j = i then x else s.line j := by
  simp only [State.line, State.setLine, Vector.getElem_set, Fin.ext_iff, eq_comm (a := j.val)]

@[simp] theorem State.line_setLine_self (s : State) (i : LineNo) (x : Line) : (s.setLine i x).line i = x := by
  simp [State.line_setLine]

theorem State.line_setLine_ne (s : State) {i j : LineNo} (h : j ≠ i) (x : Line) :
    (s.setLine i x).line j = s.line j := by
  simp [State.line_setLine, h]

@[simp] theorem State.setLine_line_eq (s : State) (i : LineNo) : s.setLine i (s.line i) = s := by
  cases s; simp [State.setLine, State.line]

@[simp] theorem State.setLine_twice (s : State) (i : LineNo) (x y : Line) :
    (s.setLine i x).setLine i y = s.setLine i y := by
  simp [State.setLine]

@[simp] theorem State.record_mapRecords (s : State) (f : Record → Record) (r : RecordIdx) :
    (s.mapRecords f).record r = f (s.record r) := by
  simp [State.record, State.mapRecords]

@[simp] theorem State.entry_mapEntries (s : State) (f : StationIdx → Entry → Entry) (st : StationIdx) :
    (s.mapEntries f).entry st = f st (s.entry st) := by
  simp [State.entry, State.mapEntries]

@[simp] theorem State.line_mapLines (s : State) (f : LineNo → Line → Line) (n : LineNo) :
    (s.mapLines f).line n = f n (s.line n) := by
  simp [State.line, State.mapLines]

@[simp] theorem State.entry_mapLineEntries (s : State) (n : LineNo) (f : Entry → Entry) (st : StationIdx) :
    (s.mapLineEntries n f).entry st = if lineOf st = n then f (s.entry st) else s.entry st := by
  simp [State.mapLineEntries]

@[simp] theorem State.mapRecords_stations (s : State) (f : Record → Record) : (s.mapRecords f).stations = s.stations := by simp only [State.mapRecords]
@[simp] theorem State.mapRecords_lines (s : State) (f : Record → Record) : (s.mapRecords f).lines = s.lines := by simp only [State.mapRecords]
@[simp] theorem State.mapRecords_completionQ (s : State) (f : Record → Record) : (s.mapRecords f).completionQ = s.completionQ := by simp only [State.mapRecords]
@[simp] theorem State.mapRecords_signalC (s : State) (f : Record → Record) : (s.mapRecords f).signalC = s.signalC := by simp only [State.mapRecords]
@[simp] theorem State.mapRecords_idleTimer (s : State) (f : Record → Record) : (s.mapRecords f).idleTimer = s.idleTimer := by simp only [State.mapRecords]
@[simp] theorem State.mapRecords_faults (s : State) (f : Record → Record) : (s.mapRecords f).faults = s.faults := by simp only [State.mapRecords]
@[simp] theorem State.mapRecords_params (s : State) (f : Record → Record) : (s.mapRecords f).params = s.params := by simp only [State.mapRecords]
@[simp] theorem State.mapRecords_tick (s : State) (f : Record → Record) : (s.mapRecords f).tick = s.tick := by simp only [State.mapRecords]
@[simp] theorem State.mapRecords_tickPhase (s : State) (f : Record → Record) : (s.mapRecords f).tickPhase = s.tickPhase := by simp only [State.mapRecords]
@[simp] theorem State.mapRecords_tickLength (s : State) (f : Record → Record) : (s.mapRecords f).tickLength = s.tickLength := by simp only [State.mapRecords]
@[simp] theorem State.mapRecords_port (s : State) (f : Record → Record) : (s.mapRecords f).port = s.port := by simp only [State.mapRecords]
@[simp] theorem State.mapRecords_resetting (s : State) (f : Record → Record) : (s.mapRecords f).resetting = s.resetting := by simp only [State.mapRecords]
@[simp] theorem State.mapRecords_pins (s : State) (f : Record → Record) : (s.mapRecords f).pins = s.pins := by simp only [State.mapRecords]
@[simp] theorem State.mapRecords_power (s : State) (f : Record → Record) : (s.mapRecords f).power = s.power := by simp only [State.mapRecords]
@[simp] theorem State.mapRecords_choices (s : State) (f : Record → Record) : (s.mapRecords f).choices = s.choices := by simp only [State.mapRecords]
@[simp] theorem State.mapRecords_pending (s : State) (f : Record → Record) : (s.mapRecords f).pending = s.pending := by simp only [State.mapRecords]
@[simp] theorem State.entry_mapRecords (s : State) (f : Record → Record) (i : StationIdx) : (s.mapRecords f).entry i = s.entry i := by simp only [State.mapRecords, State.entry]
@[simp] theorem State.line_mapRecords (s : State) (f : Record → Record) (i : LineNo) : (s.mapRecords f).line i = s.line i := by simp only [State.mapRecords, State.line]

@[simp] theorem State.mapEntries_records (s : State) (f : StationIdx → Entry → Entry) : (s.mapEntries f).records = s.records := by simp only [State.mapEntries]
@[simp] theorem State.mapEntries_lines (s : State) (f : StationIdx → Entry → Entry) : (s.mapEntries f).lines = s.lines := by simp only [State.mapEntries]
@[simp] theorem State.mapEntries_completionQ (s : State) (f : StationIdx → Entry → Entry) : (s.mapEntries f).completionQ = s.completionQ := by simp only [State.mapEntries]
@[simp] theorem State.mapEntries_signalC (s : State) (f : StationIdx → Entry → Entry) : (s.mapEntries f).signalC = s.signalC := by simp only [State.mapEntries]
@[simp] theorem State.mapEntries_idleTimer (s : State) (f : StationIdx → Entry → Entry) : (s.mapEntries f).idleTimer = s.idleTimer := by simp only [State.mapEntries]
@[simp] theorem State.mapEntries_faults (s : State) (f : StationIdx → Entry → Entry) : (s.mapEntries f).faults = s.faults := by simp only [State.mapEntries]
@[simp] theorem State.mapEntries_params (s : State) (f : StationIdx → Entry → Entry) : (s.mapEntries f).params = s.params := by simp only [State.mapEntries]
@[simp] theorem State.mapEntries_tick (s : State) (f : StationIdx → Entry → Entry) : (s.mapEntries f).tick = s.tick := by simp only [State.mapEntries]
@[simp] theorem State.mapEntries_tickPhase (s : State) (f : StationIdx → Entry → Entry) : (s.mapEntries f).tickPhase = s.tickPhase := by simp only [State.mapEntries]
@[simp] theorem State.mapEntries_tickLength (s : State) (f : StationIdx → Entry → Entry) : (s.mapEntries f).tickLength = s.tickLength := by simp only [State.mapEntries]
@[simp] theorem State.mapEntries_port (s : State) (f : StationIdx → Entry → Entry) : (s.mapEntries f).port = s.port := by simp only [State.mapEntries]
@[simp] theorem State.mapEntries_resetting (s : State) (f : StationIdx → Entry → Entry) : (s.mapEntries f).resetting = s.resetting := by simp only [State.mapEntries]
@[simp] theorem State.mapEntries_pins (s : State) (f : StationIdx → Entry → Entry) : (s.mapEntries f).pins = s.pins := by simp only [State.mapEntries]
@[simp] theorem State.mapEntries_power (s : State) (f : StationIdx → Entry → Entry) : (s.mapEntries f).power = s.power := by simp only [State.mapEntries]
@[simp] theorem State.mapEntries_choices (s : State) (f : StationIdx → Entry → Entry) : (s.mapEntries f).choices = s.choices := by simp only [State.mapEntries]
@[simp] theorem State.mapEntries_pending (s : State) (f : StationIdx → Entry → Entry) : (s.mapEntries f).pending = s.pending := by simp only [State.mapEntries]
@[simp] theorem State.record_mapEntries (s : State) (f : StationIdx → Entry → Entry) (i : RecordIdx) : (s.mapEntries f).record i = s.record i := by simp only [State.mapEntries, State.record]
@[simp] theorem State.line_mapEntries (s : State) (f : StationIdx → Entry → Entry) (i : LineNo) : (s.mapEntries f).line i = s.line i := by simp only [State.mapEntries, State.line]

@[simp] theorem State.mapLines_records (s : State) (f : LineNo → Line → Line) : (s.mapLines f).records = s.records := by simp only [State.mapLines]
@[simp] theorem State.mapLines_stations (s : State) (f : LineNo → Line → Line) : (s.mapLines f).stations = s.stations := by simp only [State.mapLines]
@[simp] theorem State.mapLines_completionQ (s : State) (f : LineNo → Line → Line) : (s.mapLines f).completionQ = s.completionQ := by simp only [State.mapLines]
@[simp] theorem State.mapLines_signalC (s : State) (f : LineNo → Line → Line) : (s.mapLines f).signalC = s.signalC := by simp only [State.mapLines]
@[simp] theorem State.mapLines_idleTimer (s : State) (f : LineNo → Line → Line) : (s.mapLines f).idleTimer = s.idleTimer := by simp only [State.mapLines]
@[simp] theorem State.mapLines_faults (s : State) (f : LineNo → Line → Line) : (s.mapLines f).faults = s.faults := by simp only [State.mapLines]
@[simp] theorem State.mapLines_params (s : State) (f : LineNo → Line → Line) : (s.mapLines f).params = s.params := by simp only [State.mapLines]
@[simp] theorem State.mapLines_tick (s : State) (f : LineNo → Line → Line) : (s.mapLines f).tick = s.tick := by simp only [State.mapLines]
@[simp] theorem State.mapLines_tickPhase (s : State) (f : LineNo → Line → Line) : (s.mapLines f).tickPhase = s.tickPhase := by simp only [State.mapLines]
@[simp] theorem State.mapLines_tickLength (s : State) (f : LineNo → Line → Line) : (s.mapLines f).tickLength = s.tickLength := by simp only [State.mapLines]
@[simp] theorem State.mapLines_port (s : State) (f : LineNo → Line → Line) : (s.mapLines f).port = s.port := by simp only [State.mapLines]
@[simp] theorem State.mapLines_resetting (s : State) (f : LineNo → Line → Line) : (s.mapLines f).resetting = s.resetting := by simp only [State.mapLines]
@[simp] theorem State.mapLines_pins (s : State) (f : LineNo → Line → Line) : (s.mapLines f).pins = s.pins := by simp only [State.mapLines]
@[simp] theorem State.mapLines_power (s : State) (f : LineNo → Line → Line) : (s.mapLines f).power = s.power := by simp only [State.mapLines]
@[simp] theorem State.mapLines_choices (s : State) (f : LineNo → Line → Line) : (s.mapLines f).choices = s.choices := by simp only [State.mapLines]
@[simp] theorem State.mapLines_pending (s : State) (f : LineNo → Line → Line) : (s.mapLines f).pending = s.pending := by simp only [State.mapLines]
@[simp] theorem State.record_mapLines (s : State) (f : LineNo → Line → Line) (i : RecordIdx) : (s.mapLines f).record i = s.record i := by simp only [State.mapLines, State.record]
@[simp] theorem State.entry_mapLines (s : State) (f : LineNo → Line → Line) (i : StationIdx) : (s.mapLines f).entry i = s.entry i := by simp only [State.mapLines, State.entry]

/-! ### Stations and lines -/

@[simp] theorem lineOf_stationAt (n : LineNo) (d : DropNo) : lineOf (stationAt n d) = n := by
  ext; simp only [lineOf, stationAt]; omega

@[simp] theorem dropOf_stationAt (n : LineNo) (d : DropNo) : dropOf (stationAt n d) = d := by
  ext; simp only [dropOf, stationAt]; omega

@[simp] theorem stationAt_lineOf_dropOf (st : StationIdx) : stationAt (lineOf st) (dropOf st) = st := by
  ext; simp only [lineOf, dropOf, stationAt]; omega

/-- The whole of an entry's index is its line and its drop. -/
theorem stationAt_inj {n m : LineNo} {d e : DropNo} : stationAt n d = stationAt m e ↔ n = m ∧ d = e := by
  constructor
  · intro h
    exact ⟨by simpa using congrArg lineOf h, by simpa using congrArg dropOf h⟩
  · rintro ⟨rfl, rfl⟩; rfl

end Sys2Proof.Machine
end

