-- ==== Sys2Proof/Laws/Ops.lean ====
section
/-!
SUPPORT. What each shared operation can do, said once: the parts of the state it leaves alone, and what it does to
the parts it changes. Proofs about commands cite these lemmas and do not unfold the operations.
-/

namespace Sys2Proof.Machine

/-- A view of a state that its vector alone fixes. -/
theorem State.record_congr {s t : State} (h : t.records = s.records) (r : RecordIdx) : t.record r = s.record r := by
  simp only [State.record, h]

theorem State.entry_congr {s t : State} (h : t.stations = s.stations) (st : StationIdx) : t.entry st = s.entry st := by
  simp only [State.entry, h]

theorem State.line_congr {s t : State} (h : t.lines = s.lines) (n : LineNo) : t.line n = s.line n := by
  simp only [State.line, h]

/-- The parts of the state that no operation on records, entries, lines or the error account touches. -/
structure State.Rest (s t : State) : Prop where
  params : t.params = s.params
  tick : t.tick = s.tick
  tickPhase : t.tickPhase = s.tickPhase
  tickLength : t.tickLength = s.tickLength
  port : t.port = s.port
  resetting : t.resetting = s.resetting
  pins : t.pins = s.pins
  power : t.power = s.power
  choices : t.choices = s.choices
  pending : t.pending = s.pending

theorem State.Rest.refl (s : State) : s.Rest s := by constructor <;> rfl

theorem State.Rest.trans {s t u : State} (h : s.Rest t) (k : t.Rest u) : s.Rest u := by
  constructor
  · rw [k.params, h.params]
  · rw [k.tick, h.tick]
  · rw [k.tickPhase, h.tickPhase]
  · rw [k.tickLength, h.tickLength]
  · rw [k.port, h.port]
  · rw [k.resetting, h.resetting]
  · rw [k.pins, h.pins]
  · rw [k.power, h.power]
  · rw [k.choices, h.choices]
  · rw [k.pending, h.pending]

/-- The Completion Unit is left alone as well. -/
structure State.Quiet (s t : State) : Prop where
  rest : s.Rest t
  completionQ : t.completionQ = s.completionQ
  signalC : t.signalC = s.signalC
  idleTimer : t.idleTimer = s.idleTimer

theorem State.Quiet.refl (s : State) : s.Quiet s := by
  constructor
  · exact State.Rest.refl s
  all_goals rfl

theorem State.Quiet.trans {s t u : State} (h : s.Quiet t) (k : t.Quiet u) : s.Quiet u := by
  constructor
  · exact h.rest.trans k.rest
  · rw [k.completionQ, h.completionQ]
  · rw [k.signalC, h.signalC]
  · rw [k.idleTimer, h.idleTimer]

theorem State.quiet_setRecord (s : State) (r : RecordIdx) (x : Record) : s.Quiet (s.setRecord r x) := by
  constructor
  · constructor <;> rfl
  all_goals rfl

theorem State.quiet_setEntry (s : State) (st : StationIdx) (e : Entry) : s.Quiet (s.setEntry st e) := by
  constructor
  · constructor <;> rfl
  all_goals rfl

theorem State.quiet_setLine (s : State) (n : LineNo) (l : Line) : s.Quiet (s.setLine n l) := by
  constructor
  · constructor <;> rfl
  all_goals rfl

theorem State.quiet_report (s : State) (o : Occurrence) : s.Quiet (s.report o) := by
  constructor
  · constructor <;> rfl
  all_goals rfl

theorem State.quiet_mapLineEntries (s : State) (n : LineNo) (f : Entry → Entry) : s.Quiet (s.mapLineEntries n f) := by
  constructor
  · constructor <;> simp [State.mapLineEntries]
  all_goals simp [State.mapLineEntries]

/-- A fold of quiet steps is quiet. -/
theorem State.quiet_foldl {α : Type} (f : State → α → State)
    (hf : ∀ (s : State) (a : α), s.Quiet (f s a)) (as : List α) (s : State) :
    s.Quiet (as.foldl f s) := by
  induction as generalizing s with
  | nil => exact State.Quiet.refl s
  | cons a as ih => exact (hf s a).trans (ih (f s a))

/-- A fold keeps whatever each of its steps keeps. -/
theorem State.foldl_keeps {α β : Type} (g : State → β) (f : State → α → State) (hf : ∀ s a, g (f s a) = g s)
    (as : List α) (s : State) : g (as.foldl f s) = g s := by
  induction as generalizing s with
  | nil => rfl
  | cons a as ih => rw [List.foldl_cons, ih, hf]

/-! ### Fault Reporting (R173) -/

/-- Every place of the counters after one occurrence. -/
theorem FaultAccount.take_counter (a : FaultAccount) (c : ErrorClass) (o : Occurrence) (k : Fin 11) :
    (a.take c o).counters[k.val] =
      if k = o.kind.code then min 255 (a.counters[o.kind.code.val] + 1) else a.counters[k.val] := by
  simp only [FaultAccount.take, Vector.getElem_set, Fin.ext_iff, eq_comm (a := k.val)]

/-- Every place of the alert set after one occurrence. -/
theorem FaultAccount.take_alert (a : FaultAccount) (c : ErrorClass) (o : Occurrence) (k : Fin 11) :
    (a.take c o).alerts[k.val] =
      if c = .alert ∧ k = o.kind.code then true else a.alerts[k.val] := by
  cases c <;> simp [FaultAccount.take, Vector.getElem_set, Fin.ext_iff, eq_comm]

/-! ### Control frames (R87, R88) -/

/-- What an offer does: one of three things. -/
theorem State.offer_cases (n : LineNo) (c : ControlFrame) (s : State) :
    ((s.line n).link = .up ∧ (s.line n).controlQ.length < Config.controlCapacity ∧
      s.offer n c = s.setLine n { s.line n with controlQ := (s.line n).controlQ ++ [c] }) ∨
    ((s.line n).link = .up ∧ ¬ (s.line n).controlQ.length < Config.controlCapacity ∧
      s.offer n c = s.report (droppedOf n c)) ∨
    ((s.line n).link ≠ .up ∧ s.offer n c = s) := by
  unfold State.offer
  by_cases h : (s.line n).link = .up
  · by_cases k : (s.line n).controlQ.length < Config.controlCapacity <;> simp [h, k]
  · simp [h]

theorem State.quiet_offer (n : LineNo) (c : ControlFrame) (s : State) : s.Quiet (s.offer n c) := by
  rcases State.offer_cases n c s with ⟨-, -, h⟩ | ⟨-, -, h⟩ | ⟨-, h⟩ <;> rw [h]
  · exact s.quiet_setLine _ _
  · exact s.quiet_report _
  · exact State.Quiet.refl s

@[simp] theorem State.offer_records (n : LineNo) (c : ControlFrame) (s : State) : (s.offer n c).records = s.records := by
  rcases State.offer_cases n c s with ⟨-, -, h⟩ | ⟨-, -, h⟩ | ⟨-, h⟩ <;> rw [h] <;> rfl

@[simp] theorem State.offer_stations (n : LineNo) (c : ControlFrame) (s : State) :
    (s.offer n c).stations = s.stations := by
  rcases State.offer_cases n c s with ⟨-, -, h⟩ | ⟨-, -, h⟩ | ⟨-, h⟩ <;> rw [h] <;> rfl

theorem State.offer_line_ne {n m : LineNo} (hm : m ≠ n) (c : ControlFrame) (s : State) :
    (s.offer n c).line m = s.line m := by
  rcases State.offer_cases n c s with ⟨-, -, h⟩ | ⟨-, -, h⟩ | ⟨-, h⟩ <;> rw [h]
  · exact s.line_setLine_ne hm _
  · rfl

/-- An offer changes nothing of a line but its control queue. -/
theorem State.offer_line_fields (n m : LineNo) (c : ControlFrame) (s : State) :
    ∃ q, (s.offer n c).line m = { s.line m with controlQ := q } := by
  by_cases hm : m = n
  · subst hm
    rcases State.offer_cases m c s with ⟨-, -, h⟩ | ⟨-, -, h⟩ | ⟨-, h⟩ <;> rw [h]
    · exact ⟨(s.line m).controlQ ++ [c], by simp⟩
    · exact ⟨(s.line m).controlQ, rfl⟩
    · exact ⟨(s.line m).controlQ, rfl⟩
  · exact ⟨(s.line m).controlQ, by rw [State.offer_line_ne hm]⟩

theorem State.quiet_offerAll (n : LineNo) (cs : List ControlFrame) (s : State) : s.Quiet (s.offerAll n cs) :=
  State.quiet_foldl _ (fun s c => s.quiet_offer n c) cs s

@[simp] theorem State.offerAll_records (n : LineNo) (cs : List ControlFrame) (s : State) :
    (s.offerAll n cs).records = s.records :=
  State.foldl_keeps State.records _ (fun s c => s.offer_records n c) cs s

@[simp] theorem State.offerAll_stations (n : LineNo) (cs : List ControlFrame) (s : State) :
    (s.offerAll n cs).stations = s.stations :=
  State.foldl_keeps State.stations _ (fun s c => s.offer_stations n c) cs s

/-! ### The arbiter (R90) -/

theorem State.quiet_leaveDispatch (r : RecordIdx) (s : State) : s.Quiet (s.leaveDispatch r) := s.quiet_setLine _ _

theorem State.quiet_startFrame (n : LineNo) (f : Frame) (h : Option Handle) (s : State) : s.Quiet (s.startFrame n f h) :=
  s.quiet_setLine _ _

theorem State.quiet_dispatchWith (n : LineNo) (h : Handle) (q : SeqNo) (s : State) : s.Quiet (s.dispatchWith n h q) :=
  ((s.quiet_leaveDispatch h.index).trans (State.quiet_setRecord _ _ _)).trans (State.quiet_startFrame _ _ _ _)

theorem State.quiet_dispatch (n : LineNo) (h : Handle) (s : State) : s.Quiet (s.dispatch n h) := by
  unfold State.dispatch
  split
  · exact s.quiet_dispatchWith n h _
  · split
    · exact (s.quiet_setEntry _ _).trans (State.quiet_dispatchWith n h _ _)
    · exact State.Quiet.refl s

/-- What a choice does: nothing, the head of the control queue, or the first eligible record. -/
theorem State.choose_cases (n : LineNo) (s : State) :
    s.choose n = s ∨
    ((s.line n).tx = .idle ∧ (s.line n).resetWaiting = false ∧ s.resetting = false ∧
      ((∃ c rest, (s.line n).controlQ = c :: rest ∧
        s.choose n = (s.setLine n { s.line n with controlQ := rest }).startFrame n c.frame none) ∨
      (∃ h, (s.line n).controlQ = [] ∧ h ∈ (s.line n).dispatchQ ∧ s.eligible n h = true ∧
        s.choose n = s.dispatch n h))) := by
  unfold State.choose
  split
  case isFalse => exact .inl rfl
  case isTrue hi =>
    split
    case h_1 c rest hc => exact .inr ⟨hi.1, hi.2.1, hi.2.2, .inl ⟨c, rest, hc, rfl⟩⟩
    case h_2 hc =>
      split
      case h_1 h hf =>
        exact .inr ⟨hi.1, hi.2.1, hi.2.2, .inr ⟨h, hc, List.mem_of_find?_eq_some hf, List.find?_some hf, rfl⟩⟩
      case h_2 => exact .inl rfl

theorem State.quiet_choose (n : LineNo) (s : State) : s.Quiet (s.choose n) := by
  rcases State.choose_cases n s with h | ⟨-, -, -, ⟨c, rest, -, h⟩ | ⟨h', -, -, -, h⟩⟩ <;> rw [h]
  · exact State.Quiet.refl s
  · exact (s.quiet_setLine _ _).trans (State.quiet_startFrame _ _ _ _)
  · exact s.quiet_dispatch n h'

/-- A busy transmitter, a waiting line reset or a soft reset in progress leaves a choice nothing to do (R90). -/
theorem State.choose_of_busy (n : LineNo) (s : State)
    (h : (s.line n).tx ≠ .idle ∨ (s.line n).resetWaiting = true ∨ s.resetting = true) : s.choose n = s := by
  unfold State.choose
  rw [if_neg]
  rintro ⟨a, b, c⟩
  rcases h with h | h | h
  · exact h a
  · simp [b] at h
  · simp [c] at h

theorem State.record_leaveDispatch (r i : RecordIdx) (s : State) : (s.leaveDispatch r).record i = s.record i := rfl

/-- A dispatch changes no record but the one dispatched. -/
theorem State.dispatch_record_ne (n : LineNo) (h : Handle) (s : State) {r : RecordIdx} (hr : r ≠ h.index) :
    (s.dispatch n h).record r = s.record r := by
  unfold State.dispatch
  split
  · simp [State.dispatchWith, State.startFrame, State.record_setRecord_ne, hr, State.record_leaveDispatch]
  · split
    · simp [State.dispatchWith, State.startFrame, State.record_setRecord_ne, hr, State.record_leaveDispatch]
    · rfl

/-- A choice changes no record that does not stand in the line's dispatch queue. -/
theorem State.choose_record_of_not_queued (n : LineNo) (s : State) {r : RecordIdx}
    (hr : ∀ h ∈ (s.line n).dispatchQ, h.index ≠ r) : (s.choose n).record r = s.record r := by
  rcases State.choose_cases n s with h | ⟨-, -, -, ⟨c, rest, -, h⟩ | ⟨h', -, hm, -, h⟩⟩ <;> rw [h]
  · simp [State.startFrame]
  · exact State.dispatch_record_ne n h' s (hr h' hm).symm

/-- A dispatch changes no entry but for the cursor of one. -/
theorem State.dispatch_entry (n : LineNo) (h : Handle) (s : State) (st : StationIdx) :
    ∃ c, (s.dispatch n h).entry st = { s.entry st with cursor := c } := by
  unfold State.dispatch
  split
  · exact ⟨(s.entry st).cursor, by simp [State.dispatchWith, State.startFrame, State.leaveDispatch]⟩
  · split
    case h_1 q _ =>
      by_cases hs : st = (s.record h.index).station
      · exact ⟨q + 1, by simp [State.dispatchWith, State.startFrame, State.leaveDispatch, hs]⟩
      · refine ⟨(s.entry st).cursor, ?_⟩
        simp [State.dispatchWith, State.startFrame, State.leaveDispatch, State.entry_setEntry_ne _ hs]
    case h_2 => exact ⟨(s.entry st).cursor, rfl⟩

/-- A choice changes no entry but for the cursor of one. -/
theorem State.choose_entry (n : LineNo) (s : State) (st : StationIdx) :
    ∃ c, (s.choose n).entry st = { s.entry st with cursor := c } := by
  rcases State.choose_cases n s with h | ⟨-, -, -, ⟨c, rest, -, h⟩ | ⟨h', -, -, -, h⟩⟩ <;> rw [h]
  · exact ⟨(s.entry st).cursor, rfl⟩
  · exact ⟨(s.entry st).cursor, by simp [State.startFrame]⟩
  · exact s.dispatch_entry n h' st

@[simp] theorem State.dispatch_faults (n : LineNo) (h : Handle) (s : State) : (s.dispatch n h).faults = s.faults := by
  unfold State.dispatch
  split
  · rfl
  · split <;> rfl

@[simp] theorem State.choose_faults (n : LineNo) (s : State) : (s.choose n).faults = s.faults := by
  rcases State.choose_cases n s with h | ⟨-, -, -, ⟨c, rest, -, h⟩ | ⟨h', -, -, -, h⟩⟩ <;> rw [h]
  · rfl
  · exact s.dispatch_faults n h'

/-! ### The line service (R162 to R165) -/

theorem State.quiet_testAcks (n : LineNo) (s : State) : s.Quiet (s.testAcks n) := by
  unfold State.testAcks
  split
  · exact s.quiet_setLine _ _
  · exact State.Quiet.refl s

@[simp] theorem State.testAcks_records (n : LineNo) (s : State) : (s.testAcks n).records = s.records := by
  unfold State.testAcks; split <;> rfl

@[simp] theorem State.testAcks_stations (n : LineNo) (s : State) : (s.testAcks n).stations = s.stations := by
  unfold State.testAcks; split <;> rfl

@[simp] theorem State.testAcks_faults (n : LineNo) (s : State) : (s.testAcks n).faults = s.faults := by
  unfold State.testAcks; split <;> rfl

theorem State.quiet_enterAwaiting (n : LineNo) (s : State) : s.Quiet (s.enterAwaiting n) :=
  (((s.quiet_mapLineEntries n _).trans (State.quiet_setLine _ _ _)).trans (State.quiet_offerAll _ _ _)).trans
    (State.quiet_testAcks _ _)

@[simp] theorem State.enterAwaiting_records (n : LineNo) (s : State) : (s.enterAwaiting n).records = s.records := by
  simp [State.enterAwaiting, State.mapLineEntries]

theorem State.quiet_testDrain (n : LineNo) (s : State) : s.Quiet (s.testDrain n) := by
  unfold State.testDrain
  split
  · exact s.quiet_enterAwaiting n
  · exact State.Quiet.refl s

@[simp] theorem State.testDrain_records (n : LineNo) (s : State) : (s.testDrain n).records = s.records := by
  unfold State.testDrain; split <;> simp

theorem State.quiet_serviceTests (n : LineNo) (s : State) : s.Quiet (s.serviceTests n) :=
  (s.quiet_testDrain n).trans (State.quiet_testAcks n _)

/-- The line service's tests change no record. -/
@[simp] theorem State.serviceTests_records (n : LineNo) (s : State) : (s.serviceTests n).records = s.records := by
  simp [State.serviceTests]

/-- An OPEN line's tests do nothing. -/
theorem State.serviceTests_of_opened (n : LineNo) (s : State) (h : (s.line n).service = .opened) :
    s.serviceTests n = s := by
  simp [State.serviceTests, State.testDrain, State.testAcks, h]

theorem State.quiet_settle (n : LineNo) (s : State) : s.Quiet (s.settle n) :=
  (s.quiet_serviceTests n).trans (State.quiet_choose n _)

/-- On an OPEN line the end of an event is the arbiter's choice alone. -/
theorem State.settle_of_opened (n : LineNo) (s : State) (h : (s.line n).service = .opened) : s.settle n = s.choose n := by
  rw [State.settle, State.serviceTests_of_opened n s h]

theorem State.quiet_returnToDraining (n : LineNo) (s : State) : s.Quiet (s.returnToDraining n) := by
  unfold State.returnToDraining
  split
  · exact s.quiet_setLine _ _
  · exact State.Quiet.refl s

/-! ### The presence sweep (R63) -/

theorem State.quiet_probeOne (n : LineNo) (s : State) (d : DropNo) : s.Quiet (s.probeOne n d) := by
  unfold State.probeOne
  split
  · exact (s.quiet_offer _ _).trans (State.quiet_setEntry _ _ _)
  · exact State.Quiet.refl s

theorem State.quiet_probeSweep (n : LineNo) (s : State) : s.Quiet (s.probeSweep n) :=
  State.quiet_foldl _ (fun s d => s.quiet_probeOne n d) _ s

@[simp] theorem State.probeOne_records (n : LineNo) (s : State) (d : DropNo) : (s.probeOne n d).records = s.records := by
  unfold State.probeOne; split <;> simp

@[simp] theorem State.probeSweep_records (n : LineNo) (s : State) : (s.probeSweep n).records = s.records :=
  State.foldl_keeps State.records _ (fun s d => s.probeOne_records n d) _ s

/-! ### Ending records (R15, R141) -/

theorem State.quiet_fence (st : StationIdx) (q : SeqNo) (s : State) : s.Quiet (s.fence st q) := s.quiet_setEntry _ _

theorem State.quiet_giveUp (x : Record) (f : Bool) (s : State) : s.Quiet (s.giveUp x f) := by
  unfold State.giveUp
  split
  · split
    · exact s.quiet_fence _ _
    · exact State.Quiet.refl s
  · exact State.Quiet.refl s

@[simp] theorem State.giveUp_records (x : Record) (f : Bool) (s : State) : (s.giveUp x f).records = s.records := by
  unfold State.giveUp
  split
  · split <;> rfl
  · rfl

@[simp] theorem State.giveUp_lines (x : Record) (f : Bool) (s : State) : (s.giveUp x f).lines = s.lines := by
  unfold State.giveUp
  split
  · split <;> rfl
  · rfl

@[simp] theorem State.giveUp_faults (x : Record) (f : Bool) (s : State) : (s.giveUp x f).faults = s.faults := by
  unfold State.giveUp
  split
  · split <;> rfl
  · rfl

theorem State.quiet_endOne (o : ExchOutcome) (f : Bool) (r : RecordIdx) (s : State) : s.Quiet (s.endOne o f r) :=
  ((s.quiet_leaveDispatch r).trans (State.quiet_giveUp _ _ _)).trans (State.quiet_setRecord _ _ _)

/-- The records after one has ended. -/
theorem State.record_endOne (o : ExchOutcome) (f : Bool) (r i : RecordIdx) (s : State) :
    (s.endOne o f r).record i = if i = r then (s.record r).ended o else s.record i := by
  simp only [State.endOne, State.record_setRecord]
  split
  · rfl
  · rw [State.record_congr (State.giveUp_records _ _ _)]
    rfl

@[simp] theorem State.endOne_faults (o : ExchOutcome) (f : Bool) (r : RecordIdx) (s : State) :
    (s.endOne o f r).faults = s.faults := by
  simp only [State.endOne, State.setRecord_faults, State.giveUp_faults]
  rfl

/-- Only fence places change in an entry when a record ends. -/
theorem State.entry_endOne (o : ExchOutcome) (f : Bool) (r : RecordIdx) (s : State) (st : StationIdx) :
    (s.endOne o f r).entry st =
      match (s.record r).seq with
      | some q =>
        if f = true ∧ st = (s.record r).station then
          { s.entry st with fence := (s.entry st).fence.set q.val (some (s.after s.params.quarantineInterval)) }
        else s.entry st
      | none => s.entry st := by
  simp only [State.endOne, State.entry_setRecord, State.giveUp]
  cases hq : (s.record r).seq with
  | none => rfl
  | some q =>
    cases f with
    | false => simp [State.leaveDispatch]
    | true =>
      by_cases h : st = (s.record r).station
      · subst h
        simp [State.fence, State.leaveDispatch, State.after]
      · simp [State.fence, State.leaveDispatch, State.entry_setEntry_ne _ h, h]

/-- Only the dispatch queue of the record's line changes when it ends. -/
theorem State.line_endOne (o : ExchOutcome) (f : Bool) (r : RecordIdx) (s : State) (n : LineNo) :
    (s.endOne o f r).line n =
      if n = (s.record r).line then
        { s.line n with dispatchQ := (s.line n).dispatchQ.filter (fun h => h.index != r) }
      else s.line n := by
  simp only [State.endOne, State.line_setRecord]
  rw [State.line_congr (State.giveUp_lines _ _ _)]
  by_cases h : n = (s.record r).line
  · subst h; simp [State.leaveDispatch]
  · simp [State.leaveDispatch, State.line_setLine_ne _ h, h]

/-- Records that an event ends, before they enter the completion queue. -/
def State.endAll (o : ExchOutcome) (f : Bool) (rs : List RecordIdx) (s : State) : State :=
  rs.foldl (fun s r => s.endOne o f r) s

theorem State.endRecords_eq (o : ExchOutcome) (f : Bool) (rs : List RecordIdx) (s : State) :
    s.endRecords o f rs = (s.endAll o f rs).enterCompletion rs := rfl

theorem State.quiet_endAll (o : ExchOutcome) (f : Bool) (rs : List RecordIdx) (s : State) : s.Quiet (s.endAll o f rs) :=
  State.quiet_foldl _ (fun s r => s.quiet_endOne o f r) rs s

theorem State.rest_enterCompletion (rs : List RecordIdx) (s : State) : s.Rest (s.enterCompletion rs) := by
  unfold State.enterCompletion
  split
  · exact State.Rest.refl s
  · constructor <;> rfl

theorem State.rest_endRecords (o : ExchOutcome) (f : Bool) (rs : List RecordIdx) (s : State) :
    s.Rest (s.endRecords o f rs) := by
  rw [State.endRecords_eq]
  exact (s.quiet_endAll o f rs).rest.trans (State.rest_enterCompletion rs _)

@[simp] theorem State.enterCompletion_records (rs : List RecordIdx) (s : State) :
    (s.enterCompletion rs).records = s.records := by
  unfold State.enterCompletion; split <;> rfl

@[simp] theorem State.enterCompletion_stations (rs : List RecordIdx) (s : State) :
    (s.enterCompletion rs).stations = s.stations := by
  unfold State.enterCompletion; split <;> rfl

@[simp] theorem State.enterCompletion_lines (rs : List RecordIdx) (s : State) :
    (s.enterCompletion rs).lines = s.lines := by
  unfold State.enterCompletion; split <;> rfl

@[simp] theorem State.enterCompletion_faults (rs : List RecordIdx) (s : State) :
    (s.enterCompletion rs).faults = s.faults := by
  unfold State.enterCompletion; split <;> rfl

/-- The queue after an entry: the records at its tail, in the order given (R141). -/
theorem State.enterCompletion_queue (rs : List RecordIdx) (s : State) :
    (s.enterCompletion rs).completionQ = s.completionQ ++ rs := by
  unfold State.enterCompletion
  split
  · simp
  · rfl

theorem State.endRecords_queue (o : ExchOutcome) (f : Bool) (rs : List RecordIdx) (s : State) :
    (s.endRecords o f rs).completionQ = s.completionQ ++ rs := by
  rw [State.endRecords_eq, State.enterCompletion_queue, (s.quiet_endAll o f rs).completionQ]

@[simp] theorem State.endRecords_faults (o : ExchOutcome) (f : Bool) (rs : List RecordIdx) (s : State) :
    (s.endRecords o f rs).faults = s.faults := by
  rw [State.endRecords_eq, State.enterCompletion_faults]
  exact State.foldl_keeps State.faults _ (fun s r => s.endOne_faults o f r) rs s

/-- A record that is not among those an event ends is as it was. -/
theorem State.endAll_record_of_not_mem (o : ExchOutcome) (f : Bool) (rs : List RecordIdx) (s : State) {i : RecordIdx}
    (hi : i ∉ rs) : (s.endAll o f rs).record i = s.record i := by
  induction rs generalizing s with
  | nil => rfl
  | cons r rs ih =>
    have h1 : i ≠ r := fun h => hi (h ▸ List.mem_cons_self ..)
    have h2 : i ∉ rs := fun h => hi (List.mem_cons_of_mem _ h)
    show ((s.endOne o f r).endAll o f rs).record i = _
    rw [ih _ h2, State.record_endOne, if_neg h1]

/-- A record among those an event ends is terminal with the outcome, its deadline stopped and its sequence
emptied, and otherwise as it was (R15). -/
theorem State.endAll_record_of_mem (o : ExchOutcome) (f : Bool) (rs : List RecordIdx) (s : State) {i : RecordIdx}
    (hi : i ∈ rs) :
    (s.endAll o f rs).record i = (s.record i).ended o := by
  induction rs generalizing s with
  | nil => cases hi
  | cons r rs ih =>
    show ((s.endOne o f r).endAll o f rs).record i = _
    by_cases hm : i ∈ rs
    · rw [ih _ hm, State.record_endOne]
      by_cases h : i = r
      · subst h; simp [Record.ended]
      · rw [if_neg h]
    · have h : i = r := by
        cases hi with
        | head => rfl
        | tail _ h => exact absurd h hm
      subst h
      rw [State.endAll_record_of_not_mem _ _ _ _ hm, State.record_endOne, if_pos rfl]

/-- The same of the whole operation. -/
theorem State.record_endRecords (o : ExchOutcome) (f : Bool) (rs : List RecordIdx) (s : State) (i : RecordIdx) :
    (s.endRecords o f rs).record i =
      if i ∈ rs then (s.record i).ended o else s.record i := by
  rw [State.endRecords_eq, State.record_congr (State.enterCompletion_records rs _)]
  split
  · exact State.endAll_record_of_mem o f rs s ‹_›
  · exact State.endAll_record_of_not_mem o f rs s ‹_›

/-- Which records a sweep reaches: the live ones that meet its condition (R15). -/
theorem State.mem_liveWhere (s : State) (p : Record → Bool) (r : RecordIdx) :
    r ∈ s.liveWhere p ↔ (s.record r).state.live = true ∧ p (s.record r) = true := by
  simp [State.liveWhere]

/-- A sweep reaches its records in ascending index (R15). -/
theorem State.liveWhere_ascending (s : State) (p : Record → Bool) : (s.liveWhere p).Pairwise (· < ·) :=
  (List.pairwise_lt_finRange 48).filter _

/-! ### The frame check -/

/-- One bit shifted into the check register, as R102 has it. -/
def crcBit (c : BitVec 16) (i : Bool) : BitVec 16 := if (c.msb != i) = true then (c <<< 1) ^^^ 0x1021#16 else c <<< 1

/-- Bits that are added to the register beforehand enter it as they reach its end. -/
theorem crcShift_xor (c x : BitVec 16) : crcShift (c ^^^ x) = crcBit c x.msb ^^^ (x <<< 1) := by
  unfold crcShift crcBit
  rw [BitVec.msb_xor, BitVec.shiftLeft_xor_distrib]
  rcases c.msb <;> rcases x.msb <;> simp <;> ac_rfl

/-- A byte enters the check register bit by bit, the most significant one first (R102). -/
theorem crcByte_serial (c : BitVec 16) (b : Byte) :
    crcByte c b = ((List.range 8).map (fun k => b.getLsbD (7 - k))).foldl crcBit c := by
  have h : ∀ k, k < 8 → ((b.setWidth 16 <<< 8) <<< k).msb = b.getLsbD (7 - k) := by
    intro k hk
    interval_cases k <;> simp [BitVec.msb_eq_getLsbD_last]
  simp only [List.range, List.range.loop, List.map, List.foldl]
  rw [← h 0 (by decide), ← h 1 (by decide), ← h 2 (by decide), ← h 3 (by decide), ← h 4 (by decide), ← h 5 (by decide),
    ← h 6 (by decide), ← h 7 (by decide)]
  unfold crcByte
  simp only [BitVec.shiftLeft_zero, crcShift_xor, ← BitVec.shiftLeft_add]
  simp

end Sys2Proof.Machine
end

