-- ==== Sys2Proof/Laws/Port.lean ====
section
/-!
SUPPORT. What the frame of a transaction does: the bytes of an instruction arrive, its decision is taken, CSn rises.
-/

namespace Sys2Proof.Machine

theorem Opcode.ofByte_code (o : Opcode) : Opcode.ofByte o.code = some o := by cases o <;> decide

/-- A served transaction is not ignored (R194). -/
theorem Port.not_ignored (p : Port) (h : p.status.getLsbD 2 = false) : p.ignored = false := by
  unfold Port.ignored
  rw [h]
  rfl

theorem State.Serving.portOpen {s : State} {bs : List Byte} (h : s.Serving bs) : s.portOpen = true := by
  simp [State.portOpen, h.operating, h.opened]

/-- The last byte of an instruction arrives and its decision is taken (R185). -/
theorem State.arriveThrough_eq {s : State} {o : Opcode} {ps : List Byte} (take : State → State)
    (h : s.Awaiting (o.code :: ps)) : s.arriveThrough o ps take = take (s.arrived (o.code :: ps)) := by
  have ha : s.awaits (o.code :: ps) = true := by
    simp only [State.awaits, h.1.portOpen, h.1.bytes, Bool.true_and, beq_self_eq_true, Bool.and_true,
      decide_eq_true_eq]
    exact h.2
  have hi : (s.port.having (o.code :: ps)).ignored = false := Port.not_ignored _ h.1.served
  simp [State.arriveThrough, ha, hi, State.arrived]

/-- CSn rises on a served transaction and the instruction has its effect (R185). -/
theorem State.riseThrough_eq {s : State} {bs : List Byte} (effect : State → State) (h : s.Serving bs) :
    s.riseThrough bs effect = (effect { s with port := s.port.havingAtLeast bs }).closePort := by
  have ha : s.carries bs = true := by simp [State.carries, h.portOpen, h.bytes]
  have hi : (s.port.havingAtLeast bs).ignored = false := Port.not_ignored _ h.served
  simp [State.riseThrough, ha, hi]

/-- CSn rises on a served transaction that meets a condition of its own. -/
theorem State.riseWhen_eq {s : State} {c : Bool} (effect : State → State) (hp : s.portOpen = true)
    (hs : s.port.status.getLsbD 2 = false) (hc : c = true) : s.riseWhen c effect = (effect s).closePort := by
  simp [State.riseWhen, hp, Port.not_ignored _ hs, hc]

/-! ### The response byte on SDO (R66, R185) -/

/-- An instruction other than READ STATION CHANGES shows the bytes of its response, and 0xFF after them (R185). -/
theorem State.responseByte_of_ne {o : Opcode} (s : State) (h : o ≠ .readStationChanges) :
    s.responseByte o = s.port.response.getD s.port.clocked absentByte := by
  simp [State.responseByte, h]

/-- A response byte that has been fixed is shown as it was fixed (R185). -/
theorem State.responseByte_of_lt (o : Opcode) (s : State) (h : s.port.clocked < s.port.response.length) :
    s.responseByte o = s.port.response.getD s.port.clocked absentByte := by
  simp [State.responseByte, Nat.not_le.mpr h]

/-- A byte of READ STATION CHANGES that has not begun shows the markers of its line (R66). -/
theorem State.responseByte_of_unbegun {s : State} {n : LineNo} (hn : s.port.response.length = n.val)
    (hc : n.val ≤ s.port.clocked) : s.responseByte .readStationChanges = s.changeByte n := by
  have h8 : s.port.response.length < 8 := hn ▸ n.isLt
  have he : (⟨s.port.response.length, h8⟩ : LineNo) = n := Fin.ext hn
  simp only [State.responseByte, h8, dif_pos, hn ▸ hc, and_self, if_true, he]

end Sys2Proof.Machine
end

