-- ==== Sys2Proof/Tests/Slice0.lean ====
section
/-!
SUPPORT. Tests: the well-formedness smoke, values the manual gives, single steps on small states, and for every
obligation with hypotheses a theorem wit_<its name> that exhibits, clause by clause, states and operands that meet
them. An obligation's variables that an equation defines are met by that definition and stand out of the witnesses.
-/

namespace Sys2Proof.Tests

open Sys2Proof Sys2Proof.Machine

/-! ### Small states -/

/-- In the middle of a transaction: `k` bytes have arrived, the first of them those of `bs`. -/
def inTx (bs : List Byte) (k : Nat) (s : State) : State :=
  { s with
    port := { Port.idle with phase := .opened, bytes := bs.take k, count := k }
    pins := { s.pins with csnHigh := false } }

theorem serving_iff (s : State) (bs : List Byte) :
    s.Serving bs ↔ s.operating = true ∧ s.port.phase = .opened ∧ s.port.status.getLsbD 2 = false ∧
      s.port.bytes = bs.take s.port.count :=
  ⟨fun h => ⟨h.operating, h.opened, h.served, h.bytes⟩, fun h => ⟨h.1, h.2.1, h.2.2.1, h.2.2.2⟩⟩

theorem inTx_serving (bs : List Byte) (k : Nat) (s : State) (h : s.operating = true) : (inTx bs k s).Serving bs :=
  ⟨h, rfl, by change (0#8 : Byte).getLsbD 2 = false; decide, rfl⟩

/-- Line 2 UP and station 17, drop 1 of line 2, PRESENT with a window of 2; the present tick is 10. -/
def up : State :=
  { (State.reset.setLine 2 { State.reset.line 2 with link := .up }).setEntry 17
      { Entry.initial with state := .present, window := some 2 } with tick := 10 }

/-- A record of station 17 in a state, with what it carries there. -/
def record17 (x : RecState) (d : Option Deadline) : Record :=
  { Record.blank 3 with
    state := x, station := 17, transmissions := 1, retryBudget := 1, segments := if x = .partly then 1 else 0
    seq := if x.inFlight || x == .queued then some 5 else none
    outcome := if x = .done then some .done else if x = .failed then some .timeout else none, deadline := d }

/-- Record 7 is such a record. -/
def holding (x : RecState) (d : Option Deadline) : State := up.setRecord 7 (record17 x d)

/-- A deadline that has just ended, the present tick being 10. -/
def ended (k : DeadlineKind) : Option Deadline := some { kind := k, expiry := 9 }

/-- A transaction that holds a snapshot. -/
def answeredTx (bs response : List Byte) (clocked k : Nat) (s : State) : State :=
  { inTx bs k s with
    port := { (inTx bs k s).port with taken := true, response := response, clocked := clocked } }

/-- A line in a service state, its quiesce deadline ended if it has one. -/
def serviceOf (x : Service) : State :=
  up.setLine 2 { up.line 2 with service := x, quiesceDeadline := if x = .awaitingAcks then some 9 else none }

/-- A line whose transmitter is in a condition. -/
def txOf (t : Tx) : State := up.setLine 2 { up.line 2 with tx := t }

/-- A PROBE being sent, and the REQUEST of record 7 being sent. -/
def sendingProbe : Tx := .sending (ControlFrame.probe 1).frame none ⟨0, 0, 139⟩
def sendingRequest : Tx := .sending ((record17 .transmitting none).requestFrame 5) (some ⟨7, 3⟩) ⟨0, 0, 139⟩
def stoppingProbe : Tx := .stopping (ControlFrame.probe 1).frame ⟨0, 0, 139⟩

/-- A line in a receive condition. -/
def rxOf (c : RxCond) (s : State) : State := s.setLine 2 { s.line 2 with rx := c }

/-- Fields of an upstream frame of drop 1. -/
def fields (q : SeqNo) (i : Fin 4) (last : Bool) (kindByte : Byte) (payload : List Byte) : UpFields :=
  { drop := 1, seq := q, segment := i, last := last, rep := false, kindByte := kindByte, payload := payload }

/-! ### Well-formedness: each check refuses an ill-formed command -/

theorem test_wf_reply : (Instr.reply 0 (fields 0 0 true 0 (List.replicate 33 0))).wf = false := by decide
theorem test_wf_holdoff : (Instr.holdoff 0 (fields 0 0 true 0 (List.replicate 33 0))).wf = false := by decide
theorem test_wf_probeAnswer : (Instr.probeAnswer 0 (fields 0 0 true 0 (List.replicate 33 0))).wf = false := by decide
theorem test_wf_attention : (Instr.attention 0 (fields 0 0 true 0 (List.replicate 33 0))).wf = false := by decide
theorem test_wf_quiesceAck : (Instr.quiesceAck 0 (fields 0 0 true 0 (List.replicate 33 0))).wf = false := by decide
theorem test_wf_unknownOpcode : (Instr.unknownOpcode 0xA1#8).wf = false := by decide
theorem test_wf_checkError_length : (Instr.checkError 0 0x90 0 0 2 [1] 0 0).wf = false := by decide
theorem test_wf_checkError_long : (Instr.checkError 0 0x90 0 0 33 (List.replicate 33 0) 0 0).wf = false := by decide
theorem test_wf_good : (Instr.reply 0 (fields 0 0 true 0 (List.replicate 32 0))).wf = true := by decide

/-! ### Values the manual gives -/

set_option maxRecDepth 20000 in
/-- The generator of R102 over the nine characters "123456789", the register loaded with ones. -/
theorem test_crc : crc16 [0x31, 0x32, 0x33, 0x34, 0x35, 0x36, 0x37, 0x38, 0x39] = 0x29B1#16 := by decide

/-- R202: a REPLY of drop 2 with sequence 1, segment 0 and LAST has the header bytes 0x92 0x18. -/
theorem test_header :
    ((UpFields.frame { fields 1 0 true 0 [] with drop := 2 } .reply).header).take 2 = [0x92#8, 0x18#8] := by decide

/-- R199: a POST header, fields at their greatest values, and one of each kind out of range. -/
theorem test_post_header :
    parsePostHeader 63 0x8F 0x33 32 =
        some { station := 63, priority := .urgent, opClass := 15, deadlineClass := 3, retryBudget := 3, length := 32 } ∧
      parsePostHeader 64 0 0 0 = none ∧ parsePostHeader 0 0x10 0 0 = none ∧ parsePostHeader 0 0 0x40 0 = none ∧
      parsePostHeader 0 0 4 0 = none ∧ parsePostHeader 0 0 0 33 = none := by decide

/-- R203: opcodes, and a byte that is none. -/
theorem test_opcodes :
    Opcode.ofByte 0xA4#8 = some .post ∧ Opcode.ofByte 0xDE#8 = some .softReset ∧ Opcode.ofByte 0xFF#8 = none := by
  decide

/-- R99: the levels of the character 0xC5, start bit, data from the least significant bit, stop bit. -/
theorem test_character :
    (List.range 10).map (charLevel 0xC5#8) = [false, true, false, true, false, false, false, true, true, true] := by
  decide

/-- R201: the first byte of READ STATUS after reset is 48, and every line byte is 0 (OFF, OPEN). -/
theorem test_status : State.reset.statusResponse = 48#8 :: List.replicate 9 0#8 := by decide

/-- R119: an expiry tick has passed one tick after it, not in it, also across the wrap of the count. -/
theorem test_passed :
    ({ State.reset with tick := 10 } : State).passed 9 = true ∧ ({ State.reset with tick := 10 } : State).passed 10 = false ∧
      State.reset.passed 0xFFFFFFFF#32 = true := by decide

/-! ### Single steps -/

/-- The outcome is a next state with a property. -/
def nextHas (o : Host.Outcome State Fault Refusal) (p : State → Bool) : Bool :=
  match o with
  | .next t => p t
  | .fault _ => false
  | .refused _ => false

/-- R9: the first POST of a PRESENT station reserves record 0 and answers the handle 0. -/
theorem test_post :
    nextHas (exec (.postAdmission 17 0 0x10 1) (inTx [0xA4#8] 1 up)) (fun t =>
      (t.record 0).state == .reserved && t.port.response == [0#8, 0#8]) = true := by decide

/-- R12: the end of a REQUEST makes its record SENT with a REPLY deadline of class 0, 100 ticks on. -/
theorem test_transmitEnd :
    nextHas (exec (.transmitEnd 2)
        ((holding .transmitting none).setLine 2 { up.line 2 with tx := sendingRequest })) (fun t =>
      (t.record 7).state == .sent && (t.record 7).deadline == some { kind := .reply, expiry := 110 }
        && (t.line 2).tx == .idle) = true := by decide

/-- R125, R72: a REPLY with LAST and no retry used makes the record DONE and leaves its sequence free. -/
theorem test_reply :
    nextHas (exec (.reply 2 (fields 5 0 true 0x42 [1, 2])) (holding .sent (ended .reply))) (fun t =>
      (t.record 7).state == .done && (t.record 7).reply == [1, 2] && (t.record 7).status == some 0x42
        && t.completionQ == [7] && t.signalC && t.seqFree 17 5) = true := by decide

/-- R131, R132: a REPLY deadline with a retry left sends the record again in the expiry event. -/
theorem test_retry :
    nextHas (exec (.replyDeadlineExpiry 7) (holding .sent (ended .reply))) (fun t =>
      (t.record 7).state == .transmitting && (t.record 7).retriesUsed == 1 && (t.record 7).transmissions == 2
        && (t.record 7).seq == some 5 && (t.entry 17).failures == 1) = true := by decide

/-- R38 to R40: the cancel of a SENT record fences its sequence and sends an ABANDON. -/
theorem test_cancel :
    nextHas (exec (.cancel 7 3) (inTx [0xA6#8, 7] 2 (holding .sent (ended .reply)))) (fun t =>
      (t.record 7).outcome == some .cancelled && t.fenced 17 5 && t.port.response == [1]
        && (t.line 2).tx == .sending (ControlFrame.abandon 1 5).frame none ⟨0, 0, 139⟩) = true := by decide

/-- R47: a PROBE_ANSWER of an ABSENT station with window 9 admits it with a window of 4. -/
theorem test_probeAnswer :
    nextHas (exec (.probeAnswer 2 (fields 0 0 true 9 [0x12, 0x34, 7])) (up.setEntry 17 Entry.initial)) (fun t =>
      (t.entry 17).state == .present && (t.entry 17).window == some 4
        && (t.entry 17).identity == some { classCode := 0x1234, revision := 7 }) = true := by decide

/-- R110: two changes of RXD between two samples restart no run, and a sample at mark counts 1. -/
theorem test_glitch :
    nextHas (exec (.rxdTransition 2) (up.setLine 2 { up.line 2 with link := .down, markRun := 100 })) (fun t =>
      nextHas (exec (.rxdTransition 2) t) (fun u =>
        u.line 2 == { up.line 2 with link := .down, markRun := 100 } && (u.clockPeriod.line 2).markRun == 101)) = true := by
  decide

/-- R66, R185: during the first response byte of READ STATION CHANGES, before it has begun, SDO shows line 0's markers. -/
theorem test_changes_on_sdo :
    (inTx [0xB2#8] 1 (up.setEntry 3 { Entry.initial with changed := true })).sdo = some 8#8 := by decide

/-- No word of the table spells a command, and withFetchWord changes nothing. -/
theorem test_no_words (s : State) (nbits w : Nat) : s.withFetchWord nbits w = s := rfl

/-! ### Witnesses of the obligations' hypotheses -/

theorem wit_StepRunsFrontCommand : ({ up with pending := [.tick] } : State).pending = Instr.tick :: [] := rfl

theorem wit_EmptyQueueRunsClock :
    (State.reset.pending = [] ∧ State.reset.due = []) ∧
      ({ State.reset with tickPhase := 1600 } : State).due = [.tick] ∧
      ({ State.reset.setLine 2 { Line.initial with tx := .stopping (ControlFrame.probe 1).frame ⟨0, 1390, 139⟩ } with
        tickPhase := 1600 } : State).due = [.tick, .stoppingEnd 2] := by and_intros <;> decide

theorem wit_PowerOnTable : (4 : Nat) ≤ 4 ∧ (16 : Nat) ≤ 16 := by decide

theorem wit_PinResetAndSupply :
    (4 : Nat) ≤ 4 ∧ (0 < 1 ∧ 1 < 4) ∧ (0 < 3 ∧ 3 < 4) ∧
      ({ up with power := ⟨true, true, true⟩ } : State).power.resetHeld = true ∧
      ({ up with power := ⟨true, false, false⟩ } : State).power.refclk = false := by decide

theorem wit_NoOperationNoTrace :
    ({ up with power := ⟨true, true, true⟩ } : State).operating = false ∧ (∀ n, Instr.tick ≠ .rxdTransition n) ∧
      Instr.tick ≠ .transactionStart ∧ Instr.tick ≠ .transactionEnd ∧ (∀ p, Instr.tick ≠ .pinReset p) ∧
      Instr.tick ≠ .resetnRelease ∧ Instr.tick ≠ .powerOnReset ∧ (∀ l, Instr.tick ≠ .refclkLoss l) ∧
      Instr.tick ≠ .refclkReturn ∧
      (({ inTx [] 0 up with port := { Port.idle with phase := .waiting } } : State).operating = true ∧
        ({ inTx [] 0 up with port := { Port.idle with phase := .waiting } } : State).port.phase ≠ .opened ∧
        (inTx [] 0 up).pins.csnHigh = false ∧ up.pins.csnHigh = true) :=
  ⟨by decide, nofun, nofun, nofun, nofun, nofun, nofun, nofun, nofun, by decide⟩

theorem wit_StatusByteBits : State.reset.pins.csnHigh = true ∧ State.reset.operating = true := by decide

/-- A POST of length 2 with record 0 reserved and `k` bytes arrived. -/
def posting (k : Nat) : State :=
  { inTx [0xA4#8, 17, 0, 0, 2] k (up.setRecord 0 { Record.blank 0 with state := .reserved, station := 17 }) with
    port := { (inTx [0xA4#8, 17, 0, 0, 2] k up).port with reserved := some 0 } }

theorem wit_ByteArrivalStores :
    ((inTx [] 0 up).Serving [] ∧ (inTx [] 0 up).port.count = 0 ∧ (0xA4#8 : Byte) ≠ 0xA1#8 ∧ 0xA4#8 ≠ 0xA9#8 ∧
        (0xA4#8 : Byte) ≠ 0xD4#8) ∧
      ((inTx [0xA4#8, 17, 0] 3 up).Serving (Opcode.post.code :: [17, 0]) ∧
        (inTx [0xA4#8, 17, 0] 3 up).port.count = 1 + [17#8, 0#8].length ∧ [17#8, 0#8].length + 1 < Opcode.post.paramCount) ∧
      ((inTx [0xC6#8] 1 up).Serving (Opcode.lineReset.code :: []) ∧ (inTx [0xC6#8] 1 up).port.count = 1 ∧
        0 + 1 = Opcode.lineReset.paramCount) ∧
      ((inTx [0xD1#8, 1, 0, 1] 4 up).Serving (Opcode.setParameter.code :: [1, 0, 1]) ∧
        (inTx [0xD1#8, 1, 0, 1] 4 up).port.count = 1 + 3 ∧ 3 + 1 = Opcode.setParameter.paramCount) ∧
      (∀ k ∈ [7, 8], (posting k).Serving (Opcode.post.code :: [17, 0, 0, 2]) ∧ 5 ≤ (posting k).port.count ∧
        (posting k).port.reserved = some 0 ∧ 7 ≤ (posting k).port.count ∧ (posting k).port.count < 7 + 2) ∧
      (∀ k ∈ [5, 6, 9], (posting k).Serving (Opcode.post.code :: [17, 0, 0, 2]) ∧ 5 ≤ (posting k).port.count ∧
        ((posting k).port.count < 7 ∨ 7 + 2 ≤ (posting k).port.count)) ∧
      ((inTx [0xA1#8] 1 up).Serving (Opcode.readStatus.code :: []) ∧ Opcode.readStatus ≠ .post ∧
        Opcode.readStatus ≠ .readStationChanges) ∧
      (∀ k ∈ [0, 7, 8], (answeredTx [0xB2#8] (List.replicate k 0) k (k + 1) up).Serving [0xB2#8] ∧
        1 ≤ (answeredTx [0xB2#8] (List.replicate k 0) k (k + 1) up).port.count ∧
        (answeredTx [0xB2#8] (List.replicate k 0) k (k + 1) up).port.response.length = k) ∧
      (answeredTx [0xB2#8] [0] 0 1 up).port.clocked < (answeredTx [0xB2#8] [0] 0 1 up).port.response.length := by
  simp only [serving_iff]; and_intros <;> decide

theorem wit_InstructionTaken :
    ((inTx [] 0 up).Serving [] ∧ (inTx [] 0 up).port.count = 0) ∧
      (∀ f ∈ [0xB1#8, 0xB4#8, 0xB5#8, 0xB6#8, 0xC1#8, 0xC4#8, 0xC5#8],
        (inTx [f] 1 up).Serving [f] ∧ (inTx [f] 1 up).port.count = 1) ∧
      (∀ f ∈ [0xA6#8, 0xA8#8, 0xAA#8, 0xD2#8],
        (inTx [f, 7] 2 up).Serving [f, 7] ∧ (inTx [f, 7] 2 up).port.count = 2) ∧
      ((inTx [0xA4#8, 17, 0, 0] 4 up).Serving [0xA4#8, 17, 0, 0] ∧ (inTx [0xA4#8, 17, 0, 0] 4 up).port.count = 4) ∧
      (inTx [0xC6#8, 2] 2 up).pins.csnHigh = false ∧
      ((inTx [0xC6#8, 2] 2 up).Serving [0xC6#8, 2] ∧ 2 ≤ (inTx [0xC6#8, 2] 2 up).port.count) ∧
      ((inTx [0xD1#8, 1, 0, highByte 1, lowByte 1] 5 up).Serving [0xD1#8, 1, 0, highByte 1, lowByte 1] ∧
        5 ≤ (inTx [0xD1#8, 1, 0, highByte 1, lowByte 1] 5 up).port.count) ∧
      ((inTx [0xD5#8] 1 up).Serving [0xD5#8] ∧ 1 ≤ (inTx [0xD5#8] 1 up).port.count) ∧
      ((inTx [0xDE#8] 1 up).Serving [0xDE#8] ∧ 1 ≤ (inTx [0xDE#8] 1 up).port.count) ∧
      ((posting 5).Serving [0xA4#8, 17, 0, 0, 2] ∧ (posting 5).port.reserved.isSome = true) ∧
      (∀ bs ∈ [[0xA9#8], [0xA8#8, 7, 3]], ∀ s ∈ [answeredTx bs (List.replicate 9 0) 5 8 up], s.Serving bs ∧
        bs.length ≤ s.port.count ∧ ({ s.port with named := some 7 } : Port).named.isSome = true ∧ 5 ≤ s.port.clocked) ∧
      (∀ s ∈ [answeredTx [0xB2#8] [2] 1 2 up], s.Serving [0xB2#8] ∧ 1 ≤ s.port.count) ∧
      (∀ s ∈ [answeredTx [0xB6#8, 17] [0, 9] 2 4 up], s.Serving [0xB6#8, 17] ∧ 2 ≤ s.port.count ∧ s.port.taken = true ∧
        s.port.response.head? = some 0#8 ∧ 2 ≤ s.port.clocked ∧ s.port.ackVoid = false) ∧
      (∀ s ∈ [answeredTx [0xC1#8, 2] [0x20, 0x81, 0, 0, 0] 2 4 up], s.Serving [0xC1#8, 2] ∧ 2 ≤ s.port.count ∧
        s.port.taken = true ∧ (s.port.response.getD 1 0#8).getLsbD 7 = true ∧ 2 ≤ s.port.clocked) ∧
      ((inTx [7] 1 up).Serving [7#8] ∧ Opcode.ofByte 7#8 = none) := by
  simp only [serving_iff]; and_intros <;> decide

theorem wit_ResponseOnSdo :
    (up.pins.csnHigh = true ∧ up.operating = true) ∧
      (({ up with power := ⟨true, false, false⟩ } : State).pins.csnHigh = true ∧
        ({ up with power := ⟨true, false, false⟩ } : State).operating = false ∧ up.port.phase ≠ .opened) ∧
      (∀ s ∈ [inTx [] 0 up, inTx [0xA4#8] 1 up, inTx [0xA4#8, 17, 0, 0] 4 up], s.Serving (s.port.bytes)) ∧
      (inTx [] 0 up).port.count = 0 ∧
      ((inTx [0xA4#8] 1 up).port.op = some .post ∧ (inTx [0xA4#8, 17, 0, 0] 4 up).port.count < 1 + Opcode.post.paramCount) ∧
      ((answeredTx [0xA1#8] [48, 0] 1 1 up).Serving [0xA1#8] ∧ (answeredTx [0xA1#8] [48, 0] 1 1 up).port.op = some .readStatus ∧
        (answeredTx [0xA1#8] [48, 0] 1 1 up).port.response[(answeredTx [0xA1#8] [48, 0] 1 1 up).port.clocked]? = some 0#8) ∧
      ((answeredTx [0xA1#8] [48, 0] 2 1 up).Serving [0xA1#8] ∧
        (answeredTx [0xA1#8] [48, 0] 2 1 up).port.response.length ≤ (answeredTx [0xA1#8] [48, 0] 2 1 up).port.clocked) ∧
      Opcode.readStatus ≠ .readStationChanges ∧
      (∀ k ∈ [0, 7, 8], (answeredTx [0xB2#8] (List.replicate k 0) k (k + 1) up).Serving [0xB2#8] ∧
        (answeredTx [0xB2#8] (List.replicate k 0) k (k + 1) up).port.op = some .readStationChanges ∧
        (answeredTx [0xB2#8] (List.replicate k 0) k (k + 1) up).port.response.length = k ∧
        k ≤ (answeredTx [0xB2#8] (List.replicate k 0) k (k + 1) up).port.clocked ∧
        1 ≤ (answeredTx [0xB2#8] (List.replicate k 0) k (k + 1) up).port.count) ∧
      ((inTx [7] 1 up).Serving [7#8] ∧ (inTx [7] 1 up).port.op = none ∧ 0 < (inTx [7] 1 up).port.count) := by
  simp only [serving_iff]; and_intros <;> decide

theorem wit_ResettingIgnoresInstructions :
    (∀ s ∈ [({ inTx [0xA6#8] 1 up with port := { (inTx [0xA6#8] 1 up).port with status := 4#8 } } : State)],
      s.port.phase = .opened ∧ s.port.status.getLsbD 2 = true ∧ 0 < s.port.count ∧ s.port.op ≠ some .readStatus ∧
        s.operating = true) ∧
      (∀ k ∈ [0, 1, 11], ∀ s ∈ [({ inTx [0xA1#8] k up with
          port := { (inTx [0xA1#8] k up).port with status := 4#8 } } : State)],
        s.port.phase = .opened ∧ s.port.status.getLsbD 2 = true ∧ s.operating = true ∧ s.pins.csnHigh = false ∧
          (k = 0 → s.port.count = 0 ∧ s.port.bytes = []) ∧
          (1 ≤ k → s.port.bytes = [0xA1#8] ∧ 1 ≤ s.port.count)) := by decide

theorem wit_CommandErrorsAtRise :
    (Opcode.ofByte 7#8 = none ∧ (inTx [] 0 up).Serving [7#8] ∧ (inTx [7] 1 up).Serving [7#8]) ∧
      ((inTx [0xA6#8] 1 up).Serving (Opcode.cancel.code :: []) ∧ (inTx [0xA6#8] 1 up).port.count = 1 ∧
        0 < Opcode.cancel.paramCount ∧ (inTx [0xA6#8] 1 up).pins.csnHigh = false) ∧
      ((inTx [0xA6#8, 7] 2 up).Serving (Opcode.cancel.code :: [7]) ∧ (inTx [0xA6#8, 7] 2 up).port.count = 1 + 1 ∧
        1 < Opcode.cancel.paramCount) ∧
      ((inTx [] 0 up).Serving [] ∧ (inTx [] 0 up).pins.csnHigh = false) := by
  simp only [serving_iff]; and_intros <;> decide

/-- Only the records from index `k` on are FREE. -/
def filled (k : Nat) : State := { up with records := Vector.ofFn fun i => if i.val < k then record17 .sent none else Record.blank 0 }

theorem wit_PostAccepted :
    ((inTx [0xA4#8, 17, 0, 0, 0] 4 (filled 43)).Awaiting [0xA4#8, 17, 0, 0, 0] ∧
        parsePostHeader 17 0 0 0 =
          some { station := 17, priority := .normal, opClass := 0, deadlineClass := 0, retryBudget := 0, length := 0 } ∧
        ((filled 43).line (lineOf 17)).link = .up ∧ ((filled 43).line (lineOf 17)).service = .opened ∧
        ((filled 43).entry 17).state = .present ∧ (filled 43).params.urgentReserve < (filled 43).freeCount ∧
        ((filled 43).record 43).state = .free ∧ (∀ i : RecordIdx, i < 43 → ((filled 43).record i).state ≠ .free)) ∧
      ((inTx [0xA4#8, 17, 0x80, 0, 0] 0 (filled 47)).Awaiting [0xA4#8, 17, 0x80, 0, 0] ∧
        parsePostHeader 17 0x80 0 0 =
          some { station := 17, priority := .urgent, opClass := 0, deadlineClass := 0, retryBudget := 0, length := 0 } ∧
        0 < (filled 47).freeCount ∧ ((filled 47).record 47).state = .free ∧
        (∀ i : RecordIdx, i < 47 → ((filled 47).record i).state ≠ .free)) := by
  simp only [State.Awaiting, serving_iff]; and_intros <;> decide

theorem wit_PostRefused :
    ((inTx [0xA4#8, 64, 0, 0, 0] 4 up).Awaiting [0xA4#8, 64, 0, 0, 0] ∧ parsePostHeader 64 0 0 0 = none) ∧
      (∀ s ∈ [inTx [0xA4#8, 17, 0, 0, 0] 4 up], s.Awaiting [0xA4#8, 17, 0, 0, 0]) ∧
      (parsePostHeader 17 0 0 0).isSome = true ∧
      (State.reset.line (lineOf 17)).link ≠ .up ∧
      ((serviceOf .draining).line (lineOf 17)).service ≠ .opened ∧
      (∀ x ∈ [StationState.absent, .lost, .disabled],
        ((up.setEntry 17 { Entry.initial with state := x }).entry 17).state = x ∧
        ((up.setEntry 17 { Entry.initial with state := x }).line (lineOf 17)).link = .up) ∧
      ((filled 44).freeCount ≤ (filled 44).params.urgentReserve ∧ (filled 48).freeCount = 0) := by
  simp only [State.Awaiting, serving_iff]; and_intros <;> decide

theorem wit_PostSettles :
    (∀ k ∈ [5, 8, 9], (posting k).Serving (0xA4#8 :: [17, 0, 0, 2]) ∧ 5 ≤ (posting k).port.count ∧
        (posting k).port.reserved = some 0) ∧
      7 + 2 ≤ (posting 9).port.count ∧ (posting 8).port.count < 7 + 2 ∧ (posting 5).port.count < 7 + 2 ∧
      (((posting 9).line ((posting 9).record 0).line).link = .up ∧
        ((posting 9).entry ((posting 9).record 0).station).state = .present) ∧
      (((posting 9).setLine 2 { up.line 2 with link := .down }).line 2).link ≠ .up ∧
      (((posting 9).setEntry 17 { Entry.initial with state := .lost }).entry 17).state ≠ .present := by
  simp only [serving_iff]; and_intros <;> decide

/-- A dispatch queue with one URGENT and one NORMAL record. -/
def queued (p : Priority) : State :=
  ((((up.setRecord 0 { record17 .queued none with priority := .urgent }).setRecord 1 (record17 .queued none)).setRecord
    7 { record17 .sent none with priority := p }).setLine 2 { up.line 2 with dispatchQ := [⟨0, 3⟩, ⟨1, 3⟩] })

theorem wit_PlaceInDispatchQueue :
    ∀ p ∈ [Priority.urgent, .normal],
      ((queued p).line ((queued p).record 7).line).dispatchQ = [⟨0, 3⟩] ++ [⟨1, 3⟩] ∧
      (∀ h ∈ [(⟨0, 3⟩ : Handle)], ((queued p).record h.index).priority = .urgent ∧ h.index ≠ 7) ∧
      (∀ h ∈ [(⟨1, 3⟩ : Handle)], ((queued p).record h.index).priority = .normal ∧ h.index ≠ 7) ∧
      ((queued p).record 7).priority = p := by decide

theorem wit_Cancel :
    (∀ s ∈ [inTx [0xA6#8, 7, 3] 2 (holding .sent none), inTx [0xA6#8, 7, 3] 0 (holding .queued none)],
        s.Awaiting [0xA6#8, 7, 3] ∧ s.resolve 7 3 = .current 7 ∧ (s.record 7).state.live = true ∧ (s.record 7).seq = some 5) ∧
      (inTx [0xA6#8, 7, 2] 2 (holding .sent none)).resolve 7 2 = .stale ∧
      (inTx [0xA6#8, 48, 0] 2 up).resolve 48 0 = .outOfRange ∧
      ((holding .done none).resolve 7 3 = .current 7 ∧ ((holding .done none).record 7).state.terminal = true) ∧
      ((up.setRecord 7 { record17 .queued none with seq := none }).resolve 7 3 = .current 7 ∧
        ((up.setRecord 7 { record17 .queued none with seq := none }).record 7).seq = none) := by
  simp only [State.Awaiting, serving_iff]; and_intros <;> decide

theorem wit_EndingRecords : ([7] : List RecordIdx).Nodup ∧ ([7] : List RecordIdx) ≠ [] := by decide

theorem wit_CollectionSnapshot :
    ((inTx [] 0 up).Awaiting [0xA9#8] ∧ up.completionQ = [] ∧
        ({ inTx [] 0 (holding .done none) with completionQ := [7] } : State).completionQ = 7 :: []) ∧
      (∀ x ∈ [RecState.sent, .done], (inTx [0xA8#8, 7] 2 (holding x none)).Awaiting [0xA8#8, 7, 3] ∧
        (inTx [0xA8#8, 7] 2 (holding x none)).resolve 7 3 = .current 7) ∧
      (((holding .sent none).record 7).state.live = true ∧ ((holding .done none).record 7).state.terminal = true) ∧
      ((inTx [0xA8#8, 7] 2 up).resolve 7 3 = .stale ∧ (inTx [0xA8#8, 7] 2 up).resolve 7 16 = .outOfRange) ∧
      ((holding .done none).record 7).outcome = some .done := by
  simp only [State.Awaiting, serving_iff]; and_intros <;> decide

/-- A COLLECT of record 7, some response bytes clocked out; `m` URGENT or NORMAL others wait in the completion queue. -/
def collecting (clocked : Nat) (others : List RecordIdx) (p : Priority) : State :=
  { answeredTx [0xA8#8, 7, 3] (List.replicate 9 0) clocked (3 + clocked)
      ((holding .done none).setRecord 8 { record17 .failed none with priority := p }) with
    completionQ := 7 :: others
    params := { Params.defaults with coalesceCount := 2 }
    port := { (answeredTx [0xA8#8, 7, 3] (List.replicate 9 0) clocked (3 + clocked) up).port with named := some 7 } }

theorem wit_CollectionFrees :
    (∀ c ∈ [4, 5], ∀ o ∈ [[], [8]], ∀ p ∈ [Priority.urgent, .normal],
        (collecting c o p).Serving [0xA8#8, 7, 3] ∧ (collecting c o p).port.named = some 7 ∧
        (collecting c o p).port.op = some .collect) ∧
      (5 ≤ (collecting 5 [] .normal).port.clocked ∧ (collecting 4 [] .normal).port.clocked < 5 ∧
        (collecting 4 [] .normal).port.short = false ∧ (collecting 4 [] .normal).pins.csnHigh = false) ∧
      ((collecting 5 [8] .urgent).record 8).priority = .urgent ∧ ((collecting 5 [8] .normal).record 8).priority = .normal ∧
      [(8 : RecordIdx)].length < (collecting 5 [8] .normal).params.coalesceCount := by
  simp only [serving_iff]; and_intros <;> decide

theorem wit_ReadRecordReports :
    ((47 < (48#8 : Byte).toNat ∨ 15 < (0#8 : Byte).toNat) ∧ (47 < (0#8 : Byte).toNat ∨ 15 < (16#8 : Byte).toNat) ∧
        ((7#8 : Byte).toNat = (7 : RecordIdx).val ∧ (3#8 : Byte).toNat ≤ 15 ∧
          ((holding .sent none).record 7).gen.val = (3#8 : Byte).toNat ∧ ((holding .sent none).record 7).state ≠ .free) ∧
        (((holding .sent none).record 7).gen.val ≠ (2#8 : Byte).toNat ∧ ((holding .sent none).record 8).state = .free ∧
          (47#8 : Byte).toNat = (47 : RecordIdx).val)) ∧
      (record17 .sent none).outcome = none ∧ (up.passed 9 = true ∧ up.passed 10 = false) ∧
      (inTx [0xAA#8, 7] 2 (holding .sent (ended .reply))).Awaiting [0xAA#8, 7, 3] ∧
      (holding .sent none).resolve 7 3 = .current 7 ∧ (holding .sent none).resolve 7 2 = .stale ∧
      (holding .sent none).resolve 48 3 = .outOfRange := by
  simp only [State.Awaiting, serving_iff]; and_intros <;> decide

theorem wit_ReadStationReports :
    (∀ b ∈ [17#8, 0#8, 63#8, 64#8], (inTx [0xB1#8] 1 up).Awaiting [0xB1#8, b]) ∧ 64 ≤ (64#8 : Byte).toNat ∧
      (63#8 : Byte).toNat = (63 : StationIdx).val := by
  simp only [State.Awaiting, serving_iff]; and_intros <;> decide

theorem wit_StationChanges :
    ((inTx [] 0 up).Serving [0xB2#8] ∧ (inTx [] 0 up).port.response.length = (0 : LineNo).val ∧
        (inTx [] 0 up).port.clocked = (0 : LineNo).val) ∧
      (∀ s ∈ [answeredTx [0xB2#8] (List.replicate 7 0) 7 8 up], s.Serving [0xB2#8] ∧
        s.port.response.length = (7 : LineNo).val ∧ s.port.clocked = (7 : LineNo).val ∧ 1 ≤ s.port.count) := by
  simp only [serving_iff]; and_intros <;> decide

theorem wit_EnableAndDisableStation :
    (∀ b ∈ [17#8, 63#8, 64#8], (inTx [0xB4#8] 1 up).Awaiting [0xB4#8, b] ∧ (inTx [0xB5#8] 1 up).Awaiting [0xB5#8, b]) ∧
      64 ≤ (64#8 : Byte).toNat ∧ (17#8 : Byte).toNat = (17 : StationIdx).val ∧ (up.entry 17).state ≠ .disabled ∧
      ((up.setEntry 17 { Entry.initial with state := .disabled }).entry 17).state = .disabled := by
  simp only [State.Awaiting, serving_iff]; and_intros <;> decide

theorem wit_AckAttention :
    (∀ b ∈ [17#8, 64#8], (inTx [0xB6#8] 1 up).Awaiting [0xB6#8, b]) ∧
      (up.entry 17).presented = none ∧
      ((up.setEntry 17 { up.entry 17 with presented := some 9#8 }).entry 17).presented = some 9#8 ∧
      (∀ k ∈ [1, 2], (answeredTx [0xB6#8, 17] [0, 9] k (2 + k) up).Serving [0xB6#8, 17] ∧
        2 ≤ (answeredTx [0xB6#8, 17] [0, 9] k (2 + k) up).port.count ∧
        (answeredTx [0xB6#8, 17] [0, 9] k (2 + k) up).port.taken = true ∧
        (answeredTx [0xB6#8, 17] [0, 9] k (2 + k) up).port.response = [0#8, 9#8] ∧
        (answeredTx [0xB6#8, 17] [0, 9] k (2 + k) up).port.clocked = k ∧
        (answeredTx [0xB6#8, 17] [0, 9] k (2 + k) up).port.ackVoid = false ∧
        (answeredTx [0xB6#8, 17] [0, 9] k (2 + k) up).pins.csnHigh = false) ∧
      ({ Port.idle with ackVoid := true } : Port).ackVoid = true := by
  simp only [State.Awaiting, serving_iff]; and_intros <;> decide

theorem wit_ReadLineReports :
    (∀ b ∈ [2#8, 7#8, 8#8], (inTx [0xC1#8] 1 up).Awaiting [0xC1#8, b]) ∧ 8 ≤ (8#8 : Byte).toNat ∧
      (7#8 : Byte).toNat = (7 : LineNo).val ∧
      (∀ k ∈ [1, 2], ∀ b ∈ [0x81#8, 0x01#8], (answeredTx [0xC1#8, 2] [0x20, b, 0, 0, 0] k (2 + k) up).Serving [0xC1#8, 2] ∧
        2 ≤ (answeredTx [0xC1#8, 2] [0x20, b, 0, 0, 0] k (2 + k) up).port.count ∧
        (answeredTx [0xC1#8, 2] [0x20, b, 0, 0, 0] k (2 + k) up).port.taken = true ∧
        (answeredTx [0xC1#8, 2] [0x20, b, 0, 0, 0] k (2 + k) up).port.clocked = k ∧
        (answeredTx [0xC1#8, 2] [0x20, b, 0, 0, 0] k (2 + k) up).pins.csnHigh = false) := by
  simp only [State.Awaiting, serving_iff]; and_intros <;> decide

theorem wit_QuiesceAndResume :
    (8 ≤ (8#8 : Byte).toNat ∧ (inTx [0xC4#8] 1 up).Awaiting [0xC4#8, 8] ∧ (inTx [0xC5#8] 1 up).Awaiting [0xC5#8, 8]) ∧
      ((2#8 : Byte).toNat = (2 : LineNo).val ∧ (inTx [0xC4#8] 1 up).Awaiting [0xC4#8, 2] ∧ (up.line 2).service = .opened) ∧
      ((inTx [0xC4#8] 1 (serviceOf .draining)).Awaiting [0xC4#8, 2] ∧
        (inTx [0xC5#8] 1 (serviceOf .draining)).Awaiting [0xC5#8, 2] ∧ (inTx [0xC5#8] 1 up).Awaiting [0xC5#8, 2] ∧
        ((serviceOf .draining).line 2).service ≠ .opened) ∧
      ((serviceOf .awaitingAcks).operating = true ∧ ((serviceOf .awaitingAcks).line 2).quiesceDeadline = some 9 ∧
        ((serviceOf .awaitingAcks).line 2).service = .awaitingAcks ∧ (serviceOf .awaitingAcks).passed 9 = true ∧
        (serviceOf .awaitingAcks).passed 10 = false ∧
        Instr.quiesceDeadlineExpiry 2 ∈ (serviceOf .awaitingAcks).due) := by
  simp only [State.Awaiting, serving_iff]; and_intros <;> decide

theorem wit_LineServiceTests :
    ((serviceOf .draining).line 2).service = .draining ∧
      (∃ r : RecordIdx, (((serviceOf .draining).setRecord 7 (record17 .sent none)).record r).state.inFlight = true ∧
        (((serviceOf .draining).setRecord 7 (record17 .sent none)).record r).line = 2) ∧
      (∀ r : RecordIdx, ((serviceOf .draining).record r).state.inFlight = true → ((serviceOf .draining).record r).line ≠ 2) ∧
      [] = (List.finRange 8).filter
        (fun d => (((serviceOf .draining).setEntry 17 Entry.initial).entry (stationAt 2 d)).state == .present) ∧
      ([1] = (List.finRange 8).filter (fun d => ((serviceOf .draining).entry (stationAt 2 d)).state == .present) ∧
        (([1] : List DropNo) ≠ []) ∧ ((serviceOf .draining).line 2).link = .up ∧
        (∀ l ∈ [Link.off, .down], ((({ up.line 2 with link := l } : Line)).link ≠ .up))) ∧
      (∀ x ∈ [Service.opened, .draining, .awaitingAcks, .quiesced], ((serviceOf x).line 2).service = x) ∧
      ((serviceOf .awaitingAcks).line 2).service = .awaitingAcks ∧
      (∃ d, ((serviceOf .awaitingAcks).entry (stationAt 2 d)).state = .present ∧
        ((serviceOf .awaitingAcks).entry (stationAt 2 d)).ackMark = false) ∧
      (∀ d, (((serviceOf .awaitingAcks).setEntry 17 { up.entry 17 with ackMark := true }).entry (stationAt 2 d)).state =
          .present →
        (((serviceOf .awaitingAcks).setEntry 17 { up.entry 17 with ackMark := true }).entry (stationAt 2 d)).ackMark =
          true) := by
  refine ⟨by decide, ⟨7, by decide⟩, by decide, by decide, by decide, by decide, by decide, ⟨1, by decide⟩, by decide⟩

theorem wit_LineResetTaken :
    (∀ b ∈ [2#8, 7#8, 8#8], (inTx [0xC6#8] 1 up).Serving [0xC6#8, b]) ∧ 8 ≤ (8#8 : Byte).toNat ∧
      (up.line 2).tx = .idle ∧ ((txOf sendingProbe).line 2).tx ≠ .idle ∧
      (∀ t ∈ [sendingProbe, stoppingProbe],
        (((txOf t).setLine 2 { (txOf t).line 2 with resetWaiting := true }).operating = true ∧
          (((txOf t).setLine 2 { (txOf t).line 2 with resetWaiting := true }).line 2).resetWaiting = true ∧
          (((txOf t).setLine 2 { (txOf t).line 2 with resetWaiting := true }).line 2).tx = t ∧ (txOf t).resetting = false)) := by
  simp only [serving_iff]; and_intros <;> decide

/-- Record 0, NORMAL and without a sequence, first in the dispatch queue; station 17 has room. -/
def waiting : State :=
  (up.setRecord 0 { record17 .queued none with seq := none, transmissions := 0 }).setLine 2
    { up.line 2 with dispatchQ := [⟨0, 3⟩] }

theorem waiting_dispatch : waiting.DispatchLawful := ⟨by decide, by decide, by decide, by decide⟩

theorem wit_LineResetActs :
    waiting.DispatchLawful ∧
      ((waiting.record 0).state.live = true ∧ (waiting.record 0).line = 2) ∧
      (0 ∈ waiting.liveWhere (fun x => x.line == 2) ∧ 1 ∉ waiting.liveWhere (fun x => x.line == 2)) ∧
      ((waiting.entry (stationAt 2 1)).state ≠ .disabled ∧ (waiting.line 2).link = .up ∧ (waiting.line 2).tx = .idle ∧
        waiting.resetting = false ∧ (waiting.line 0).link ≠ .up) ∧
      ((up.setEntry 17 { Entry.initial with state := .disabled }).entry (stationAt 2 1)).state = .disabled ∧
      ((answeredTx [0xB6#8, 17] [0, 9] 0 2 waiting).port.op = some .ackAttention ∧
        (answeredTx [0xB6#8, 17] [0, 9] 0 2 waiting).port.taken = true ∧
        ((answeredTx [0xB6#8, 17] [0, 9] 0 2 waiting).port.params.getD 0 0#8).toNat = (stationAt 2 1).val ∧
        waiting.port.op ≠ some .ackAttention) :=
  ⟨waiting_dispatch, by decide, by decide, by decide, by decide, by decide⟩

theorem wit_SoftReset :
    ((inTx [] 0 up).Serving [0xDE#8] ∧ (inTx [0xDE#8] 1 (txOf sendingProbe)).Serving [0xDE#8]) ∧
      ((up.line 2).link = .up ∧ (up.line 0).link ≠ .up ∧ (up.line 0).rx ≠ .discarding ∧ (up.entry (stationAt 2 1)).state ≠ .disabled) ∧
      (∀ n, (up.line n).tx = .idle) ∧ ((up.setEntry 17 { Entry.initial with state := .disabled }).entry 17).state = .disabled ∧
      ((txOf sendingProbe).line 2).tx ≠ .idle ∧ ((holding .sent none).record 7).state ≠ .free := by
  simp only [serving_iff]; and_intros <;> decide

theorem wit_ResetPeriodEnds :
    ∀ t ∈ [sendingProbe, stoppingProbe],
      ({ txOf t with resetting := true } : State).operating = true ∧
      (∀ m, m ≠ 2 → (({ txOf t with resetting := true } : State).line m).tx = .idle) ∧
      (({ txOf t with resetting := true } : State).line 2).tx = t ∧ t ≠ .idle ∧
      (∃ m, m ≠ 2 ∧ (((txOf t).setLine 3 { Line.initial with tx := stoppingProbe }).line m).tx ≠ .idle) ∧
      ((txOf t).line 2).resetWaiting = false := by
  intro t ht
  refine ⟨?_, ?_, ?_, ?_, ⟨3, ?_⟩, ?_⟩ <;> revert t <;> decide

/-- A SET PARAMETER transaction with all its bytes, on a device whose line 2 is UP and line 0 OFF. -/
def setting (a b : Byte) (v : BitVec 16) : State := inTx (setBytes a b v) 5 up

theorem setting_serving (a b : Byte) (v : BitVec 16) : (setting a b v).Serving (setBytes a b v) :=
  inTx_serving _ _ _ rfl

theorem wit_SetParameter :
    (∀ a ∈ [0#8, 22#8], (setting a 0 1).Serving (setBytes a 0 1) ∧ Param.ofNumber a.toNat = none) ∧
      (∀ k ∈ [0, 22], k = 0 ∨ 21 < k) ∧
      ((setting 3 8 16).Serving (setBytes 3 8 16) ∧ Param.ofNumber 3 = some .lineRate ∧ Param.lineRate.indexCount ≤ 8) ∧
      (15 < Param.lineRate.least ∧ Param.windowLimit.greatest < 5) ∧
      ((setting 3 2 16).Serving (setBytes 3 2 16) ∧ ((setting 3 2 16).line 2).link ≠ .off) ∧
      ((setting 3 0 16).Serving (setBytes 3 0 16) ∧ (0 < Param.lineRate.indexCount) ∧ Param.lineRate.least ≤ 16 ∧
        ((setting 3 0 16).line 0).link = .off ∧ Param.lineRate ≠ .lineEnable ∧ Param.lineRate ≠ .coalesceCount) := by
  simp only [serving_iff]; and_intros <;> decide

theorem wit_NamedParameterWrites :
    (∀ v ∈ [15#16, 16#16], (setting 3 0 v).Serving (setBytes 3 (byteOf (0 : LineNo).val) v)) ∧
      (∀ v ∈ [0#16, 1#16, 4#16, 5#16], (setting 4 0 v).Serving (setBytes 4 (byteOf (0 : LineNo).val) v)) ∧
      (∀ v ∈ [0#16, 1#16], (setting 1 0 v).Serving (setBytes 1 0 v)) ∧
      (∀ v ∈ [16#16, 17#16], (setting 15 0 v).Serving (setBytes 15 0 v)) ∧
      (∀ v ∈ [15#16, 16#16], (setting 19 0 v).Serving (setBytes 19 0 v)) ∧
      (∀ a ∈ [20#8, 21#8], ∀ b ∈ [10#8, 11#8], ∀ v ∈ [1#16, 2#16], (setting a b v).Serving (setBytes a b v)) ∧
      ((setting 3 0 16).line 0).link = .off ∧ ((setting 3 2 16).line 2).link ≠ .off ∧
      (10#8 : Byte).toNat = (10 : Fin 11).val :=
  ⟨fun v _ => setting_serving 3 0 v, fun v _ => setting_serving 4 0 v, fun v _ => setting_serving 1 0 v,
    fun v _ => setting_serving 15 0 v, fun v _ => setting_serving 19 0 v, fun a _ b _ v _ => setting_serving a b v,
    by decide, by decide, by decide⟩

theorem wit_WritesThatAct :
    (∀ v ∈ [0#16, 1#16, 16#16, 17#16], (setting 16 0 v).Serving (setBytes 16 0 v)) ∧
      (setting 16 0 1).completionQ = [] ∧
      (([7] : List RecordIdx).length < (2#16 : BitVec 16).toNat ∧ (1#16 : BitVec 16).toNat ≤ ([7] : List RecordIdx).length) ∧
      ((holding .done none).record 7).priority = .normal ∧
      (∀ v ∈ [0#16, 1#16], (setting 2 0 v).Serving (setBytes 2 (byteOf (0 : LineNo).val) v) ∧
        (setting 2 2 v).Serving (setBytes 2 (byteOf (2 : LineNo).val) v)) ∧
      ((setting 2 0 1).line 0).link = .off ∧ ((setting 2 2 1).line 2).link ≠ .off :=
  ⟨fun v _ => setting_serving 16 0 v, by decide, by decide, by decide,
    fun v _ => ⟨setting_serving 2 0 v, setting_serving 2 2 v⟩, by decide, by decide⟩

theorem wit_ReadParameterAndStatus :
    (∀ a ∈ [0#8, 1#8, 21#8, 22#8], ∀ b ∈ [0#8, 1#8], (inTx [0xD2#8, a] 2 up).Awaiting [0xD2#8, a, b]) ∧
      Param.ofNumber 0 = none ∧ Param.ofNumber 22 = none ∧ Param.ofNumber 1 = some .tickDivider ∧
      Param.tickDivider.indexCount ≤ (1#8 : Byte).toNat ∧ (0#8 : Byte).toNat < Param.tickDivider.indexCount ∧
      ((inTx [] 0 up).operating = true ∧ (inTx [] 0 up).port.phase = .opened ∧ (inTx [] 0 up).port.count = 0 ∧
        (inTx [] 0 up).port.bytes = []) ∧
      (∀ x ∈ [(Param.lineRate, 16), (.lineRate, 65535), (.windowLimit, 1), (.windowLimit, 4)],
        7 < x.1.indexCount ∧ x.1.least ≤ x.2 ∧ x.2 ≤ x.1.greatest ∧ x.1 ≠ .tickDivider) := by
  simp only [State.Awaiting, serving_iff]; and_intros <;> decide

theorem wit_ReadAndClearErrors :
    (inTx [] 0 up).Awaiting [0xD4#8] ∧ (inTx [] 0 up).Serving [0xD5#8] ∧ (inTx [0xD5#8] 1 up).Serving [0xD5#8] := by
  simp only [State.Awaiting, serving_iff]; and_intros <;> decide

theorem wit_OccurrenceTaken :
    (0 : Fin 11) ≠ (commandErrorOf 7).kind.code ∧ up.faults.counters[10] < 255 ∧
      ({ FaultAccount.empty with counters := Vector.replicate 11 255 } : FaultAccount).counters[10] = 255 ∧
      up.params.errorClass[10] = .alert ∧ up.params.errorClass[0] = .notice ∧ up.faults.capture = none ∧
      ({ FaultAccount.empty with capture := some (commandErrorOf 7), further := 255 } : FaultAccount).further = 255 := by
  decide

theorem wit_OutputPins :
    (up.line 2).tx = .idle ∧
      (∀ e ∈ [0, 138, 139, 277, 1250, 1251], ∀ a ∈ [Tx.sending (ControlFrame.probe 1).frame none ⟨0, e, 139⟩,
        .stopping (ControlFrame.probe 1).frame ⟨0, e, 139⟩], ((txOf a).line 2).tx = a ∧ 0 < 139) ∧
      (0 < 139 ∧ (0 + 1) * 139 ≤ 139 ∧ 139 < (0 + 2) * 139 ∧ (7 + 1) * 139 ≤ 1250 ∧ 1250 < (7 + 2) * 139 ∧
        9 * 139 ≤ 1251) := by and_intros <;> decide

theorem wit_ArbiterChoice :
    ((txOf sendingProbe).line 2).tx ≠ .idle ∧
      ((up.line 2).tx = .idle ∧ (up.line 2).resetWaiting = false ∧ up.resetting = false ∧ (up.line 2).controlQ = []) ∧
      ((up.setLine 2 { up.line 2 with controlQ := [.probe 1] }).line 2).controlQ = .probe 1 :: [] ∧
      ((waiting.line 2).dispatchQ = [] ++ ⟨0, 3⟩ :: [] ∧ waiting.eligible 2 ⟨0, 3⟩ = true ∧
        (waiting.record 0).line = 2 ∧ (waiting.record 0).seq = none ∧
        waiting.seqFree 17 ((waiting.entry 17).cursor + 0) = true) ∧
      ((queued .normal).eligible 2 ⟨0, 3⟩ = true ∧ ((queued .normal).record 0).seq = some 5 ∧
        ((queued .normal).line 2).dispatchQ = [] ++ ⟨0, 3⟩ :: [⟨1, 3⟩] ∧
        (∀ g ∈ [(⟨1, 3⟩ : Handle)], g.index ≠ 0)) := by decide

theorem wit_ControlFrames :
    (State.reset.line 2).link ≠ .up ∧
      ((up.line 2).link = .up ∧ (up.line 2).service = .opened ∧ (up.line 2).controlQ.length < 16) ∧
      16 ≤ ((up.setLine 2 { up.line 2 with controlQ := List.replicate 16 (.probe 1) }).line 2).controlQ.length ∧
      ([1] = (List.finRange 8).filter (fun d =>
          ((up.setEntry 17 { Entry.initial with probeDue := true }).entry (stationAt 2 d)).probeDue &&
          (((up.setEntry 17 { Entry.initial with probeDue := true }).entry (stationAt 2 d)).state == .absent ||
            ((up.setEntry 17 { Entry.initial with probeDue := true }).entry (stationAt 2 d)).state == .lost)) ∧
        (0 : DropNo) ∉ [(1 : DropNo)]) ∧
      ((serviceOf .draining).line 2).service ≠ .opened := by decide

theorem wit_FrameEnds :
    (∀ t ∈ [sendingProbe, sendingRequest, stoppingProbe], (txOf t).operating = true ∧ ((txOf t).line 2).tx = t ∧
        ((txOf t).line 2).resetWaiting = false ∧ (txOf t).resetting = false) ∧
      (((holding .transmitting none).record 7).gen = 3 ∧ ((holding .transmitting none).record 7).state = .transmitting) ∧
      ((holding .done none).record 7).state ≠ .transmitting := by decide

/-- The state with RXD of line 2 at space. -/
def spaced : State := { up with pins := { up.pins with rxdMark := up.pins.rxdMark.set 2 false } }

theorem wit_LinkChanges :
    (∀ s ∈ [up.setLine 2 { up.line 2 with link := .down }],
        s.operating = true ∧ (s.line 2).link = .down ∧ s.pins.rxdMark[2] = true) ∧
      (spaced.operating = true ∧ (spaced.line 2).link = .up ∧ spaced.pins.rxdMark[2] = false) ∧
      (40 * up.params.lineRate[2] ≤ ({ up.line 2 with markRun := 5560 } : Line).markRun ∧
        20 * up.params.lineRate[2] ≤ ({ up.line 2 with spaceRun := 2780 } : Line).spaceRun) ∧
      ((setting 2 2 0).Serving (setBytes 2 (byteOf (2 : LineNo).val) 0) ∧ ((setting 2 2 0).line 2).link ≠ .off) ∧
      ((7 : RecordIdx) ∈ (holding .sent none).liveWhere (fun x => x.line == 2) ∧
        8 ∉ (holding .sent none).liveWhere (fun x => x.line == 2) ∧ ((holding .sent none).record 7).station = stationAt 2 1 ∧
        ((holding .sent none).record 7).seq = some 5) ∧
      (((txOf sendingProbe).line 2).tx = .sending (ControlFrame.probe 1).frame none ⟨0, 0, 139⟩ ∧
        ∀ f h p, (up.line 2).tx ≠ .sending f h p) ∧
      (∀ x ∈ [StationState.disabled, .absent, .present, .lost],
        ((up.setEntry 17 { up.entry 17 with state := x }).entry (stationAt 2 1)).state = x) ∧
      up.DispatchLawful := by
  refine ⟨by decide, by decide, by decide, ⟨(serving_iff _ _).2 (by decide), by decide⟩, by decide, ⟨by decide, nofun⟩,
    by decide, ⟨by decide, by decide, by decide, by decide⟩⟩

set_option maxRecDepth 20000 in
theorem wit_Characters :
    (up.operating = true ∧ (up.line 2).link = .up ∧ (up.line 2).phase = .none ∧ (up.line 2).rx = .hunting) ∧
      ((up.setLine 2 { up.line 2 with phase := .complete 0xC5 true }).line 2).phase = .complete 0xC5 true ∧
      ((rxOf .discarding up).line 2).rx = .discarding ∧
      (∀ bs ∈ [[], [0x91, 0], [0x91, 0, 0], [0x91, 0, 0, 0]], ((rxOf (.assembling bs) up).line 2).rx = .assembling bs) ∧
      (headerGood 0x91 32 = true ∧ headerGood 0x91 33 = false ∧ headerGood 0x99 0 = false ∧ headerGood 0x11 0 = false) ∧
      ([0x91#8, 0, 0, 0].length ≠ 5 + 0 ∧ 3 < [0x91#8, 0, 0, 0].length) ∧
      ((∃ c1 b, [c1, b] = checkBytes [0x91, 0, 0, 0]) ∧ kindOfHeader 0x91 = some .reply) ∧
      ([0#8, 0#8] ≠ checkBytes [0x91, 0, 0, 0]) := by
  refine ⟨by decide, by decide, by decide, by decide, by decide, by decide, ⟨⟨_, _, rfl⟩, by decide⟩, by decide⟩

set_option maxRecDepth 20000 in
theorem wit_ReceiveErrors :
    (up.operating = true ∧ (up.line 2).link = .up) ∧
      ((0x99#8 : Byte).getLsbD 3 = true ∧ up.receivable 2 [0x99, 0, 0, 0] = true) ∧
      (FrameKind.upstreamOfCode ((0x11#8 : Byte).toNat / 16) = none ∧ 32 < (33#8 : Byte).toNat) ∧
      ((0x91#8 : Byte).getLsbD 3 = false ∧ FrameKind.upstreamOfCode ((0x91#8 : Byte).toNat / 16) ≠ none ∧
        [0#8, 0#8] ≠ checkBytes [0x91, 0, 0, 0] ∧ up.receivable 2 [0x91, 0, 0, 0, 0, 0] = true) ∧
      (((rxOf (.assembling [0x91]) up).line 2).rx = .assembling [0x91] ∧ up.pins.rxdMark[2] = true ∧
        ((rxOf (.assembling [0x91]) up).line 2).phase = .none) ∧
      (((rxOf .discarding up).line 2).rx = .discarding ∧ (rxOf .discarding up).resetting = false) ∧
      (up.operating = true ∧ up.pins.rxdMark[2] = true) ∧ (spaced.operating = true ∧ spaced.pins.rxdMark[2] = false) ∧
      ({ up with power := ⟨false, true, false⟩ } : State).operating = false ∧
      ((0x91#8 : Byte).toNat / 16 = 9 ∧ (0xA1#8 : Byte).toNat / 16 = 10 ∧ (0xB1#8 : Byte).toNat / 16 ≠ 9 ∧
        (0xB1#8 : Byte).toNat / 16 ≠ 10 ∧ [0x91#8, 0, 0].length < 4 ∧ 4 ≤ [0x91#8, 0, 0, 0].length) := by decide

theorem wit_ReplyNotAccepted :
    ((17 : StationIdx) = stationAt 2 (fields 5 0 true 0 []).drop ∧
        up.receivable 2 ((fields 5 0 true 0 []).frame .reply).body = true ∧
        ((up.setEntry 17 Entry.initial).entry 17).state ≠ .present) ∧
      ((up.entry 17).state = .present ∧
        (∀ r, (up.record r).holds = true → (up.record r).station = 17 → (up.record r).seq ≠ some 5) ∧
        ((up.entry 17).fence[5]) = none ∧ (((up.fence 17 5).entry 17).fence[5]).isSome = true) ∧
      ((holding .partly none).holder 17 5 = some 7 ∧ ((holding .partly none).record 7).state = .partly ∧
        0 < ((holding .partly none).record 7).segments ∧ (holding .partly none).DispatchLawful) := by
  refine ⟨by decide, by decide, by decide, by decide, by decide, ⟨by decide, by decide, by decide, by decide⟩⟩

theorem wit_ReplyDelivered :
    (∀ x ∈ [RecState.queued, .transmitting, .sent, .deferred], (holding x none).holder 17 5 = some 7 ∧
        ((holding x none).entry 17).state = .present ∧ ((holding x none).record 7).state = x ∧
        (0 : Fin 4).val = ((holding x none).record 7).segments ∧
        (holding x none).receivable 2 ((fields 5 0 true 0 []).frame .reply).body = true) ∧
      ((holding .partly none).holder 17 5 = some 7 ∧ ((holding .partly none).record 7).segments < (2 : Fin 4).val ∧
        (1 : Fin 4).val = ((holding .partly none).record 7).segments) ∧
      (∀ k ∈ [32, 33], ((({ record17 .partly none with reply := List.replicate k 0 } : Record)).reply.length + 32 ≤ 64 ∨
        64 < (({ record17 .partly none with reply := List.replicate k 0 } : Record)).reply.length + 32)) ∧
      (up.setRecord 7 { record17 .partly none with segments := 3 }).holder 17 5 = some 7 := by decide

theorem wit_Holdoff :
    (up.receivable 2 ((fields 5 0 true 3 []).frame .holdoff).body = true ∧
        ((up.setEntry 17 Entry.initial).entry 17).state ≠ .present ∧ (up.entry 17).state = .present) ∧
      (up.holder 17 5 = none ∧ up.fenced 17 5 = false ∧ (up.fence 17 5).fenced 17 5 = true) ∧
      (∀ x ∈ [RecState.queued, .transmitting, .sent, .partly, .deferred], (holding x none).holder 17 5 = some 7 ∧
        ((holding x none).record 7).state = x ∧
        ((holding x none).record 7).holdoffs < (holding x none).params.holdoffLimit) ∧
      up.params.holdoffLimit ≤ ({ record17 .sent none with holdoffs := 8 } : Record).holdoffs := by decide

theorem wit_ProbeAnswer :
    (up.receivable 2 ((fields 0 0 true 1 [0, 1, 2]).frame .probeAnswer).body = true ∧ (1#8 : Byte) ≠ 0#8 ∧
        [0#8, 1, 2].length = 3 ∧ [0#8, 1].length ≠ 3) ∧
      (∀ x ∈ [StationState.present, .disabled, .absent, .lost],
        ((up.setEntry 17 { Entry.initial with state := x }).entry 17).state = x) ∧
      (up.line 2).service ≠ .awaitingAcks ∧ ((serviceOf .awaitingAcks).line 2).service = .awaitingAcks := by decide

theorem wit_AttentionAndQuiesceAck :
    ((17 : StationIdx) = stationAt 2 (fields 0 0 true 9 []).drop ∧
        up.receivable 2 ((fields 0 0 true 9 []).frame .attention).body = true ∧
        up.receivable 2 ((fields 0 0 true 9 []).frame .quiesceAck).body = true ∧
        ((up.setEntry 17 Entry.initial).entry 17).state ≠ .present ∧ (up.entry 17).state = .present) ∧
      ((up.entry 17).presented = none ∧
        ({ up.entry 17 with presented := some 1#8 } : Entry).presented ≠ none ∧
        ({ up.entry 17 with presented := some 1#8 } : Entry).pendingCause = none ∧
        ({ up.entry 17 with presented := some 1#8, pendingCause := some 2#8 } : Entry).pendingCause ≠ none) ∧
      (∀ x ∈ [Service.opened, .draining, .quiesced, .awaitingAcks], ((serviceOf x).line 2).service = x) ∧
      (∀ d, ((up.setEntry 17 { up.entry 17 with failures := 0, ackMark := true }).entry (stationAt 2 d)).state = .present →
        ((up.setEntry 17 { up.entry 17 with failures := 0, ackMark := true }).entry (stationAt 2 d)).ackMark = true) ∧
      (∃ d, ((up.setEntry 18 { Entry.initial with state := .present }).entry (stationAt 2 d)).state = .present ∧
        ((up.setEntry 18 { Entry.initial with state := .present }).entry (stationAt 2 d)).ackMark = false) := by
  refine ⟨by decide, by decide, by decide, by decide, ⟨2, by decide⟩⟩

theorem wit_ClockPeriod :
    up.operating = true ∧ (up.line 2).link = .up ∧ (up.line 0).link ≠ .up ∧
      (∀ c ∈ [CharPhase.armed, .bits 0 1 0, .bits 1 1 0, .bits 8 1 0, .bits 9 1 0, .bits 3 2 0, .complete 0 true],
        ((up.setLine 2 { up.line 2 with phase := c }).line 2).phase = c) ∧
      (∀ e ∈ [0, 1388, 1389, 1390], ∀ k ∈ [0, 6],
        ((txOf (.sending (ControlFrame.probe 1).frame none ⟨k, e, 139⟩)).line 2).tx =
          .sending (ControlFrame.probe 1).frame none ⟨k, e, 139⟩) ∧
      ((txOf stoppingProbe).line 2).tx = stoppingProbe := by and_intros <;> decide

theorem wit_TickAndExpiries :
    up.operating = true ∧
      (((up.setEntry 17 { up.entry 17 with fence := (up.entry 17).fence.set 5 (some 9) }).entry 17).fence[5] = some 9 ∧
        up.passed 9 = true ∧ up.passed 10 = false) ∧
      ((up.entry 16).state = .absent ∧ (up.entry 16).probeDue = false ∧ up.passed (up.entry 16).probeTick = true ∧
        State.reset.passed (State.reset.entry 16).probeTick = false) ∧
      (({ up with idleTimer := some 9, completionQ := [7] } : State).idleTimer = some 9 ∧
        ({ up with idleTimer := some 9, completionQ := [7] } : State).completionQ ≠ [] ∧ up.idleTimer = none) := by
  decide

theorem wit_RecordDeadlines :
    (∀ p ∈ [(RecState.sent, DeadlineKind.reply), (.partly, .segment), (.deferred, .holdoff)],
        ((holding p.1 (ended p.2)).record 7).deadline = some { kind := p.2, expiry := 9 } ∧
        ((holding p.1 (ended p.2)).record 7).state = p.1 ∧ (holding p.1 (ended p.2)).operating = true ∧
        (holding p.1 (ended p.2)).due.any (fun c => c ∈ [Instr.replyDeadlineExpiry 7, .segmentDeadlineExpiry 7,
          .holdoffDeadlineExpiry 7]) = true) ∧
      up.passed 9 = true ∧ up.passed 10 = false ∧
      up.params.lossThreshold ≤ 2 + 1 ∧ (up.entry 17).failures + 1 < up.params.lossThreshold ∧
      (record17 .sent none).retriesUsed < (record17 .sent none).retryBudget ∧
      ({ record17 .sent none with retriesUsed := 1 } : Record).retryBudget ≤ 1 := by decide

/-- Reset meets the hypotheses of the invariants that are plain bounds; that it is lawful as a whole is an obligation
of its own. -/
theorem wit_BoundsKept :
    State.reset.ControlBounded ∧ State.reset.faults.Bounded ∧ State.reset.SlotsOrdered :=
  ⟨by unfold State.ControlBounded; decide, by unfold FaultAccount.Bounded; decide,
    by unfold State.SlotsOrdered Entry.slotsOrdered; decide⟩

theorem blank_shaped (g : Gen) : (Record.blank g).Shaped :=
  ⟨rfl, rfl, ⟨nofun, nofun⟩, rfl, nofun, nofun⟩

theorem wit_LawfulKept : waiting.Lawful where
  shaped := by
    have h : ∀ r : RecordIdx, r ≠ 0 → waiting.record r = Record.blank 0 := by decide
    intro r
    by_cases hr : r = 0
    · subst hr
      exact ⟨rfl, rfl, ⟨nofun, nofun⟩, rfl, nofun, nofun⟩
    · rw [h r hr]
      exact blank_shaped 0
  dispatch := waiting_dispatch
  completion := ⟨by decide, by decide⟩
  reserved := by unfold State.ReservedLawful; decide
  live := ⟨by decide, by decide, by decide⟩
  port := ⟨nofun, by decide, nofun, nofun, nofun, nofun⟩

theorem defaults_inRange : Params.defaults.InRange := by
  intro p
  cases p with
  | deadlineClass k => revert k; decide
  | _ => decide

theorem wit_RecordCountsKept : waiting.Lawful ∧ waiting.params.InRange ∧ waiting.RecordsCounted := by
  refine ⟨wit_LawfulKept, defaults_inRange, fun r => ?_⟩
  constructor <;> revert r <;> decide

theorem wit_HeldSequencesKept :
    (waiting.Lawful ∧ waiting.params.InRange ∧ waiting.HeldLawful) ∧ (holding .sent (ended .reply)).HeldLawful :=
  ⟨⟨wit_LawfulKept, defaults_inRange, by decide, by decide, by decide, by decide⟩,
    by decide, by decide, by decide, by decide⟩

theorem wit_CompletionSignalKept : waiting.Lawful ∧ waiting.params.InRange ∧ waiting.SignalLawful :=
  ⟨wit_LawfulKept, defaults_inRange, by decide, by decide, by decide⟩

set_option maxRecDepth 20000 in
theorem wit_FrameIsItsCharacters :
    up.operating = true ∧ (up.line 2).link = .up ∧ (up.line 2).rx = .hunting ∧ (∀ d m, (up.line 2).phase ≠ .complete d m) ∧
      (fields 0 0 true 0 (List.replicate 32 0)).payload.length ≤ 32 ∧
      (∀ i ∈ [0, 5], i < ((fields 0 0 true 0 []).frame .reply).body.length ∧
        ((rxOf (.assembling (((fields 0 0 true 0 []).frame .reply).body.take i)) up).line 2).rx =
          .assembling (((fields 0 0 true 0 []).frame .reply).body.take i)) := by
  refine ⟨by decide, by decide, by decide, nofun, by decide, by decide⟩

theorem wit_HeadersAndOpcodesReadBack :
    (fields 0 0 true 0 (List.replicate 32 0)).payload.length ≤ 32 ∧
      (64 ≤ (64#8 : Byte).toNat ∧ (0x10#8 : Byte).toNat / 16 % 8 ≠ 0 ∧ 3 < (0x40#8 : Byte).toNat / 16 ∧
        3 < (4#8 : Byte).toNat % 16 ∧ 32 < (33#8 : Byte).toNat) ∧
      ((63#8 : Byte).toNat = (63 : StationIdx).val ∧ (0x8F#8 : Byte).toNat / 16 % 8 = 0 ∧ (0x33#8 : Byte).toNat / 16 ≤ 3 ∧
        (0x33#8 : Byte).toNat % 16 ≤ 3 ∧ (32#8 : Byte).toNat ≤ 32) := by decide

end Sys2Proof.Tests
end

section
/-!
The life of one record: what an event can do to it while it is live (section 1.2), and that this keeps what a record
carries in each state and the bounds of its counts.
-/

namespace Sys2Proof.Machine

open Relation (ReflTransGen)

theorem RecState.live_of_inFlight {x : RecState} (h : x.inFlight = true) : x.live = true := by
  cases x <;> simp_all [RecState.live, RecState.inFlight]

theorem RecState.not_terminal_of_live {x : RecState} (h : x.live = true) : x.terminal = false := by
  cases x <;> simp_all [RecState.live, RecState.terminal]

/-- A record that holds a sequence is live. -/
theorem Record.live_of_holds {x : Record} (h : x.holds = true) : x.state.live = true := by
  rw [Record.holds, Bool.or_eq_true, Bool.and_eq_true, beq_iff_eq] at h
  rcases h with h | ⟨h, -⟩
  · exact RecState.live_of_inFlight h
  · rw [h]; rfl

theorem RecState.live_iff (x : RecState) : x.live = true ↔
    x = .queued ∨ x = .transmitting ∨ x = .sent ∨ x = .partly ∨ x = .deferred := by
  cases x <;> decide

/-- One change of a live record (R11 to R15), with the guard under which the device makes it; `limit` is HOLDOFF_LIMIT. -/
inductive Record.Move (limit : Nat) (x : Record) : Record → Prop where
  | dispatched (q : SeqNo) (h : x.state = .queued) :
    Move limit x { x with state := .transmitting, seq := some q, transmissions := x.transmissions + 1 }
  | presented (e : Tick) (h : x.state = .transmitting) :
    Move limit x { x with state := .sent, deadline := some { kind := .reply, expiry := e } }
  | retried (h : x.state = .sent) (hr : x.retriesUsed < x.retryBudget) :
    Move limit x { x with retriesUsed := x.retriesUsed + 1, state := .queued, deadline := none }
  | waited (h : x.state = .deferred) : Move limit x { x with state := .queued, deadline := none }
  | part (p : List Byte) (e : Tick) (h : x.holds = true) (hs : x.segments < 4)
    (hl : x.reply.length + p.length ≤ Config.maxReply) :
    Move limit x
      { x with
        state := .partly, reply := x.reply ++ p, segments := x.segments + 1
        deadline := some { kind := .segment, expiry := e } }
  | heldOff (e : Tick) (h : x.holds = true) (hh : x.holdoffs < limit) :
    Move limit x
      { x with state := .deferred, holdoffs := x.holdoffs + 1, deadline := some { kind := .holdoff, expiry := e } }
  | completed (p : List Byte) (b : Byte) (h : x.holds = true) (hs : x.segments < 4)
    (hl : x.reply.length + p.length ≤ Config.maxReply) :
    Move limit x
      ({ x with reply := x.reply ++ p, segments := x.segments + 1, status := some b : Record }.ended .done)
  | failed (o : ExchOutcome) (ho : o ≠ .done) (h : x.state.live = true) : Move limit x (x.ended o)

namespace Record.Move

variable {limit : Nat} {x y : Record}

theorem live (h : x.Move limit y) : x.state.live = true := by
  cases h with
  | part _ _ h | heldOff _ h | completed _ _ h => exact Record.live_of_holds h
  | failed _ _ h => exact h
  | dispatched _ h | presented _ h | retried h | waited h => rw [h]; rfl

/-- A live record stays live or becomes terminal. -/
theorem live_or_terminal (h : x.Move limit y) : y.state.live = true ∨ y.state.terminal = true := by
  cases h with
  | completed => exact .inr rfl
  | failed o => exact .inr (by simp only [Record.ended]; split <;> rfl)
  | _ => exact .inl rfl

theorem station (h : x.Move limit y) : y.station = x.station := by cases h <;> rfl

end Record.Move

/-- An ended record carries its outcome alone (R6, R7). -/
theorem Record.shaped_ended (o : ExchOutcome) (x : Record) : (x.ended o).Shaped := by
  by_cases ho : o = .done
  · subst ho
    exact ⟨rfl, rfl, ⟨fun _ => rfl, fun _ => rfl⟩, rfl, nofun, nofun⟩
  · simp only [Record.ended, if_neg ho]
    exact ⟨rfl, rfl, ⟨nofun, fun h => absurd (Option.some.inj h) ho⟩, rfl, nofun, nofun⟩

theorem Record.shaped_blank (g : Gen) : (Record.blank g).Shaped :=
  ⟨rfl, rfl, ⟨nofun, nofun⟩, rfl, nofun, nofun⟩

/-- A record that holds a sequence has been transmitted (R4). -/
theorem Record.Shaped.transmitted {x : Record} (h : x.Shaped) (hh : x.holds = true) : 1 ≤ x.transmissions := by
  unfold Record.holds at hh
  rcases hf : x.state.inFlight with _ | _
  · simp_all
  · exact h.sent hf

theorem Record.Shaped.no_outcome {x : Record} (h : x.Shaped) (hl : x.state.live = true) : x.outcome = none := by
  have := h.outcome
  cases hx : x.state <;> simp_all [RecState.live, RecState.terminal]

theorem Record.Move.shaped {limit : Nat} {x y : Record} (m : x.Move limit y) (h : x.Shaped) : y.Shaped := by
  have ho := h.no_outcome m.live
  have hseq := h.seq
  have hsent := h.sent
  have hdead := h.deadline
  cases m with
  | completed | failed => exact Record.shaped_ended _ _
  | dispatched q hq =>
    simp only [Record.deadlineFits, hq] at hdead
    exact ⟨hdead, by simp [ho, RecState.terminal], ⟨nofun, by simp [ho]⟩, rfl, fun _ => by simp, nofun⟩
  | presented e hq =>
    rw [hq] at hsent
    exact ⟨⟨e, rfl⟩, by simp [ho, RecState.terminal], ⟨nofun, by simp [ho]⟩,
      by rw [hseq]; simp [Record.holds, hq, RecState.inFlight], fun _ => hsent rfl, nofun⟩
  | retried hq hr =>
    rw [hq] at hsent
    have := hsent rfl
    refine ⟨rfl, by simp [ho, RecState.terminal], ⟨nofun, by simp [ho]⟩, ?_, nofun, nofun⟩
    simp only [hseq, Record.holds, hq]
    simpa [RecState.inFlight] using this
  | waited hq =>
    rw [hq] at hsent
    have := hsent rfl
    refine ⟨rfl, by simp [ho, RecState.terminal], ⟨nofun, by simp [ho]⟩, ?_, nofun, nofun⟩
    simp only [hseq, Record.holds, hq]
    simpa [RecState.inFlight] using this
  | part p e hh =>
    exact ⟨⟨e, rfl⟩, by simp [ho, RecState.terminal], ⟨nofun, by simp [ho]⟩, hseq.trans hh, fun _ => h.transmitted hh,
      nofun⟩
  | heldOff e hh =>
    exact ⟨⟨e, rfl⟩, by simp [ho, RecState.terminal], ⟨nofun, by simp [ho]⟩, hseq.trans hh, fun _ => h.transmitted hh,
      nofun⟩

theorem Record.counted_blank (g : Gen) : (Record.blank g).Counted := by
  constructor <;> simp [Record.blank]

/-- The status of a record that is not DONE is absent. -/
theorem Record.Counted.no_status {x : Record} (h : x.Counted) (hx : x.state ≠ .done) : x.status = none := by
  have := mt h.status.mp hx
  simpa using this

theorem RecState.ne_done_of_live {x : RecState} (h : x.live = true) : x ≠ .done := by
  rintro rfl
  simp [RecState.live] at h

/-- A record that was not DONE keeps its counts as it fails. -/
theorem Record.Counted.failed {x : Record} (h : x.Counted) (hx : x.state ≠ .done) {o : ExchOutcome} (ho : o ≠ .done) :
    (x.ended o).Counted := by
  have hs := h.no_status hx
  simp only [Record.ended, if_neg ho]
  exact ⟨h.retries, h.budget, h.holdoffs, h.transmissions, by simp, h.segments, h.reply, by simp [hs]⟩

theorem Record.Move.counted {limit : Nat} {x y : Record} (m : x.Move limit y) (hl : limit ≤ 15) (h : x.Counted) :
    y.Counted := by
  have hs := h.no_status (RecState.ne_done_of_live m.live)
  have ⟨hr, hb, hh, ht, hw, hseg, hrep, _⟩ := h
  cases m with
  | failed o ho hx => exact h.failed (RecState.ne_done_of_live hx) ho
  | dispatched q hq =>
    have := hw (.inr (.inl hq))
    exact ⟨hr, hb, hh, by simp only; omega, by simp, hseg, hrep, by simp [hs]⟩
  | presented e hq => exact ⟨hr, hb, hh, ht, by simp, hseg, hrep, by simp [hs]⟩
  | retried hq hlt => exact ⟨hlt, hb, hh, by simp only; omega, fun _ => by simp only; omega, hseg, hrep, by simp [hs]⟩
  | waited hq => exact ⟨hr, hb, hh, ht, fun _ => hw (.inr (.inr hq)), hseg, hrep, by simp [hs]⟩
  | part p e hx hlt hle =>
    exact ⟨hr, hb, hh, ht, by simp, hlt, by simpa using hle, by simp [hs]⟩
  | heldOff e hx hlt =>
    exact ⟨hr, hb, by simp only; omega, by simp only; omega, fun _ => by simp only; omega, hseg, hrep, by simp [hs]⟩
  | completed p b hx hlt hle =>
    exact ⟨hr, hb, hh, ht, by simp [Record.ended], hlt, by simpa [Record.ended] using hle, by simp [Record.ended]⟩

/-- What several changes in one event come to. -/
abbrev Record.Moves (limit : Nat) : Record → Record → Prop := ReflTransGen (Record.Move limit)

namespace Record.Moves

variable {limit : Nat} {x y : Record}

theorem shaped (m : Record.Moves limit x y) (h : x.Shaped) : y.Shaped := by
  induction m with
  | refl => exact h
  | tail _ m ih => exact m.shaped ih

theorem counted (m : Record.Moves limit x y) (hl : limit ≤ 15) (h : x.Counted) : y.Counted := by
  induction m with
  | refl => exact h
  | tail _ m ih => exact m.counted hl ih

/-- A record that is not live is as it was. -/
theorem eq_of_not_live (m : Record.Moves limit x y) (h : x.state.live = false) : y = x := by
  induction m with
  | refl => rfl
  | tail _ m ih => subst ih; rw [m.live] at h; cases h

theorem station (m : Record.Moves limit x y) : y.station = x.station := by
  induction m with
  | refl => rfl
  | tail _ m ih => rw [m.station, ih]

theorem live (m : Record.Moves limit x y) (h : y.state.live = true) : x.state.live = true := by
  by_contra hx
  rw [m.eq_of_not_live (by simpa using hx)] at h
  exact hx h

theorem reserved (m : Record.Moves limit x y) : y.state = .reserved ↔ x.state = .reserved := by
  induction m with
  | refl => rfl
  | @tail y z _ m ih =>
    rw [← ih]
    have h1 := m.live
    have h2 := m.live_or_terminal
    constructor <;> intro h
    · rw [h] at h2; simp [RecState.live, RecState.terminal] at h2
    · rw [h] at h1; simp [RecState.live] at h1

/-- A terminal record stays as it is. -/
theorem terminal (m : Record.Moves limit x y) (h : x.state.terminal = true) : y.state.terminal = true := by
  rw [m.eq_of_not_live]
  · exact h
  · cases hx : x.state <;> simp_all [RecState.terminal, RecState.live]

end Record.Moves

end Sys2Proof.Machine
end

section
/-!
What the shared operations keep: the relations between the states before and after one, and that the dispatch queues
(R83), the completion queue (R141) and the stations and links of live records (R15, R57, R88) stay lawful.
-/

namespace Sys2Proof.Machine

/-! ### Operations that change no record and no queue of records -/

/-- The states of the stations and the links stay, and the empty control queue of a line that is not UP. -/
structure State.SameLinks (s t : State) : Prop where
  stations : ∀ st, (t.entry st).state = (s.entry st).state
  links : ∀ n, (t.line n).link = (s.line n).link
  control : ∀ n, (s.line n).link ≠ .up → (s.line n).controlQ = [] → (t.line n).controlQ = []

/-- The records, the dispatch queues and the Completion Unit stay. -/
structure State.SameTable (s t : State) : Prop where
  records : t.records = s.records
  queues : ∀ n, (t.line n).dispatchQ = (s.line n).dispatchQ
  quiet : s.Quiet t

/-- Both: nothing changes of what the laws of the Exchange Table speak of. -/
structure State.Still (s t : State) : Prop where
  table : s.SameTable t
  links : s.SameLinks t

theorem State.SameLinks.refl (s : State) : s.SameLinks s := ⟨fun _ => rfl, fun _ => rfl, fun _ _ h => h⟩

theorem State.SameLinks.trans {s t u : State} (h : s.SameLinks t) (k : t.SameLinks u) : s.SameLinks u :=
  ⟨fun st => (k.stations st).trans (h.stations st), fun n => (k.links n).trans (h.links n),
    fun n hn hq => k.control n (by rw [h.links]; exact hn) (h.control n hn hq)⟩

theorem State.SameTable.trans {s t u : State} (h : s.SameTable t) (k : t.SameTable u) : s.SameTable u :=
  ⟨k.records.trans h.records, fun n => (k.queues n).trans (h.queues n), h.quiet.trans k.quiet⟩

theorem State.Still.refl (s : State) : s.Still s := ⟨⟨rfl, fun _ => rfl, State.Quiet.refl s⟩, State.SameLinks.refl s⟩

theorem State.Still.trans {s t u : State} (h : s.Still t) (k : t.Still u) : s.Still u :=
  ⟨h.table.trans k.table, h.links.trans k.links⟩

theorem State.still_foldl {α : Type} (f : State → α → State) (hf : ∀ (s : State) (a : α), s.Still (f s a))
    (as : List α) (s : State) : s.Still (as.foldl f s) := by
  induction as generalizing s with
  | nil => exact State.Still.refl s
  | cons a as ih => exact (hf s a).trans (ih (f s a))

theorem State.sameTable_setLine (s : State) (n : LineNo) {l : Line} (hq : l.dispatchQ = (s.line n).dispatchQ) :
    s.SameTable (s.setLine n l) := by
  refine ⟨rfl, fun m => ?_, s.quiet_setLine n l⟩
  rw [State.line_setLine]
  split
  · subst m; exact hq
  · rfl

theorem State.sameLinks_setLine (s : State) (n : LineNo) {l : Line} (hl : l.link = (s.line n).link)
    (hc : (s.line n).link ≠ .up → (s.line n).controlQ = [] → l.controlQ = []) : s.SameLinks (s.setLine n l) := by
  refine ⟨fun _ => rfl, fun m => ?_, fun m => ?_⟩ <;> rw [State.line_setLine] <;> split
  · subst m; exact hl
  · rfl
  · subst m; exact hc
  · exact fun _ h => h

theorem State.still_setLine (s : State) (n : LineNo) {l : Line} (hq : l.dispatchQ = (s.line n).dispatchQ := by rfl)
    (hl : l.link = (s.line n).link := by rfl)
    (hc : (s.line n).link ≠ .up → (s.line n).controlQ = [] → l.controlQ = [] := by exact fun _ h => h) :
    s.Still (s.setLine n l) :=
  ⟨s.sameTable_setLine n hq, s.sameLinks_setLine n hl hc⟩

theorem State.sameTable_setEntry (s : State) (st : StationIdx) (e : Entry) : s.SameTable (s.setEntry st e) :=
  ⟨rfl, fun _ => rfl, s.quiet_setEntry st e⟩

theorem State.still_setEntry (s : State) (st : StationIdx) {e : Entry} (he : e.state = (s.entry st).state := by rfl) :
    s.Still (s.setEntry st e) := by
  refine ⟨s.sameTable_setEntry st e, fun i => ?_, fun _ => rfl, fun _ _ h => h⟩
  rw [State.entry_setEntry]
  split
  · subst i; exact he
  · rfl

theorem State.sameTable_mapLineEntries (s : State) (n : LineNo) (f : Entry → Entry) :
    s.SameTable (s.mapLineEntries n f) :=
  ⟨by simp [State.mapLineEntries], fun m => by simp [State.mapLineEntries], s.quiet_mapLineEntries n f⟩

@[simp] theorem State.line_mapLineEntries (s : State) (n : LineNo) (f : Entry → Entry) (m : LineNo) :
    (s.mapLineEntries n f).line m = s.line m := by simp [State.mapLineEntries]

@[simp] theorem State.record_mapLineEntries (s : State) (n : LineNo) (f : Entry → Entry) (r : RecordIdx) :
    (s.mapLineEntries n f).record r = s.record r := by simp [State.mapLineEntries]

theorem State.still_mapLineEntries (s : State) (n : LineNo) {f : Entry → Entry} (hf : ∀ e, (f e).state = e.state) :
    s.Still (s.mapLineEntries n f) := by
  refine ⟨s.sameTable_mapLineEntries n f, fun st => ?_, fun m => by simp, fun m _ h => by simpa using h⟩
  rw [State.entry_mapLineEntries]
  split
  · exact hf _
  · rfl

theorem State.still_report (s : State) (o : Occurrence) : s.Still (s.report o) :=
  ⟨⟨rfl, fun _ => rfl, s.quiet_report o⟩, fun _ => rfl, fun _ => rfl, fun _ _ h => h⟩

theorem State.still_offer (n : LineNo) (c : ControlFrame) (s : State) : s.Still (s.offer n c) := by
  rcases State.offer_cases n c s with ⟨hu, -, h⟩ | ⟨-, -, h⟩ | ⟨-, h⟩ <;> rw [h]
  · exact s.still_setLine n rfl rfl (fun hn => absurd hu hn)
  · exact s.still_report _
  · exact State.Still.refl s

theorem State.still_offerAll (n : LineNo) (cs : List ControlFrame) (s : State) : s.Still (s.offerAll n cs) :=
  State.still_foldl _ (fun s c => s.still_offer n c) cs s

theorem State.still_startFrame (n : LineNo) (f : Frame) (h : Option Handle) (s : State) :
    s.Still (s.startFrame n f h) :=
  s.still_setLine n

theorem State.still_testAcks (n : LineNo) (s : State) : s.Still (s.testAcks n) := by
  unfold State.testAcks
  split
  · exact s.still_setLine n
  · exact State.Still.refl s

theorem State.still_enterAwaiting (n : LineNo) (s : State) : s.Still (s.enterAwaiting n) := by
  unfold State.enterAwaiting
  dsimp only
  refine State.Still.trans ?_ ((State.still_offerAll n _ _).trans (State.still_testAcks n _))
  exact (s.still_mapLineEntries n (f := fun e => { e with ackMark := false }) fun _ => rfl).trans
    (State.still_setLine _ n)

theorem State.still_serviceTests (n : LineNo) (s : State) : s.Still (s.serviceTests n) := by
  refine State.Still.trans ?_ (State.still_testAcks n _)
  unfold State.testDrain
  split
  · exact s.still_enterAwaiting n
  · exact State.Still.refl s

theorem State.still_returnToDraining (n : LineNo) (s : State) : s.Still (s.returnToDraining n) := by
  unfold State.returnToDraining
  split
  · exact s.still_setLine n
  · exact State.Still.refl s

theorem State.still_probeOne (n : LineNo) (s : State) (d : DropNo) : s.Still (s.probeOne n d) := by
  unfold State.probeOne
  split
  · refine (s.still_offer n _).trans (State.still_setEntry _ _ ?_)
    rw [((s.still_offer n (.probe d)).links).stations]
    rfl
  · exact State.Still.refl s

theorem State.still_probeSweep (n : LineNo) (s : State) : s.Still (s.probeSweep n) :=
  State.still_foldl _ (fun s d => s.still_probeOne n d) _ s

theorem State.still_signOfLife (st : StationIdx) (s : State) : s.Still (s.signOfLife st) :=
  s.still_setEntry st rfl

/-! ### The dispatch queues (R83 to R85) -/

/-- "Every URGENT one ahead of every NORMAL one" as a condition on each two places. -/
theorem dropWhile_all_false_iff {α : Type} (p : α → Bool) (q : List α) :
    (∀ a ∈ q.dropWhile p, p a = false) ↔ q.Pairwise (fun a b => p b = true → p a = true) := by
  induction q with
  | nil => simp
  | cons a q ih =>
    rw [List.dropWhile_cons, List.pairwise_cons]
    cases ha : p a with
    | true => simpa using ih
    | false =>
      have hs : (∀ b ∈ q, p b = false) → q.Pairwise (fun a b => p b = true → p a = true) := fun h =>
        List.Pairwise.imp_of_mem (R := fun _ _ => True) (fun _ hb _ h1 => by rw [h _ hb] at h1; cases h1)
          (List.pairwise_of_forall (fun _ _ => trivial))
      simpa [ha] using hs

/-- What a dispatch queue knows of a record stays. -/
def Record.SameInQueue (x y : Record) : Prop :=
  (y.state = .queued ↔ x.state = .queued) ∧
    (x.state = .queued → y.gen = x.gen ∧ y.station = x.station ∧ y.priority = x.priority)

theorem Record.SameInQueue.refl (x : Record) : x.SameInQueue x := ⟨.rfl, fun _ => ⟨rfl, rfl, rfl⟩⟩

theorem Record.SameInQueue.of_not_queued {x y : Record} (hx : x.state ≠ .queued) (hy : y.state ≠ .queued) :
    x.SameInQueue y := ⟨⟨fun h => absurd h hy, fun h => absurd h hx⟩, fun h => absurd h hx⟩

/-- A record that is not QUEUED stands in no dispatch queue. -/
theorem State.DispatchLawful.not_mem {s : State} (h : s.DispatchLawful) {r : RecordIdx}
    (hr : (s.record r).state ≠ .queued) {n : LineNo} {k : Handle} (hk : k ∈ (s.line n).dispatchQ) : k.index ≠ r := by
  rintro rfl
  exact hr (h.queued n k hk).2.1

/-- Some records leave their dispatch queues, and the others keep their places (R85). -/
theorem State.DispatchLawful.leave {s t : State} (h : s.DispatchLawful) (P : RecordIdx → Bool)
    (hq : ∀ n, (t.line n).dispatchQ = (s.line n).dispatchQ.filter (fun k => !P k.index))
    (hout : ∀ r, P r = true → (t.record r).state ≠ .queued)
    (hrest : ∀ r, P r = false → (s.record r).SameInQueue (t.record r)) : t.DispatchLawful := by
  have hmem : ∀ n k, k ∈ (t.line n).dispatchQ ↔ k ∈ (s.line n).dispatchQ ∧ P k.index = false := by
    intro n k; rw [hq]; simp
  have hsame : ∀ n, ∀ k ∈ (t.line n).dispatchQ, (t.record k.index).state = .queued ∧
      (t.record k.index).gen = (s.record k.index).gen ∧ (t.record k.index).station = (s.record k.index).station ∧
      (t.record k.index).priority = (s.record k.index).priority := by
    intro n k hk
    obtain ⟨hk, hP⟩ := (hmem n k).mp hk
    obtain ⟨h1, h2⟩ := hrest _ hP
    exact ⟨h1.mpr (h.queued n k hk).2.1, h2 (h.queued n k hk).2.1⟩
  constructor
  · intro n k hk
    obtain ⟨h1, h2, h3, -⟩ := hsame n k hk
    obtain ⟨k1, -, k3⟩ := h.queued n k ((hmem n k).mp hk).1
    refine ⟨?_, h1, ?_⟩
    · simpa only [State.handleOf, h2] using k1
    · simpa only [Record.line, h3] using k3
  · intro n
    rw [hq]
    exact (h.once n).filter _
  · intro r hr
    have hP : P r = false := by
      by_contra hP
      exact hout r (by simpa using hP) hr
    obtain ⟨h1, h2⟩ := hrest r hP
    obtain ⟨h2, h3, -⟩ := h2 (h1.mp hr)
    rw [hmem]
    simp only [State.handleOf, Record.line, h2, h3, hP, and_true]
    exact h.all r (h1.mp hr)
  · intro n
    rw [dropWhile_all_false_iff]
    have hp := (dropWhile_all_false_iff _ _).mp (h.urgent n)
    have hf : ((s.line n).dispatchQ.filter (fun k => !P k.index)).Pairwise
      (fun a b => s.urgentHandle b = true → s.urgentHandle a = true) := hp.filter _
    rw [← hq] at hf
    refine hf.imp_of_mem fun {a b} ha hb hab => ?_
    obtain ⟨-, -, -, ha⟩ := hsame n a ha
    obtain ⟨-, -, -, hb⟩ := hsame n b hb
    simpa only [State.urgentHandle, State.isUrgent, ha, hb] using hab

/-- The dispatch queues stay, and what they know of their records. -/
theorem State.DispatchLawful.congr {s t : State} (h : s.DispatchLawful)
    (hq : ∀ n, (t.line n).dispatchQ = (s.line n).dispatchQ)
    (hr : ∀ r, (s.record r).SameInQueue (t.record r)) : t.DispatchLawful :=
  h.leave (fun _ => false) (fun n => by rw [hq]; simp) (fun _ h => by cases h) (fun r _ => hr r)

theorem State.SameTable.dispatch {s t : State} (k : s.SameTable t) (h : s.DispatchLawful) : t.DispatchLawful :=
  h.congr k.queues (fun r => by rw [State.record_congr k.records]; exact Record.SameInQueue.refl _)

/-- A record that has become QUEUED stands in its line's queue, with no NORMAL one ahead of an URGENT one (R84). -/
theorem State.DispatchLawful.enter {s t : State} (h : s.DispatchLawful) {r : RecordIdx} {us ns : List Handle}
    (hr : (s.record r).state ≠ .queued) (ht : (t.record r).state = .queued)
    (hs : (t.record r).station = (s.record r).station) (hrest : ∀ i, i ≠ r → t.record i = s.record i)
    (hold : (s.line (s.record r).line).dispatchQ = us ++ ns)
    (hnew : (t.line (s.record r).line).dispatchQ = us ++ t.handleOf r :: ns)
    (hother : ∀ m, m ≠ (s.record r).line → (t.line m).dispatchQ = (s.line m).dispatchQ)
    (hus : t.isUrgent r = true → ∀ a ∈ us, t.urgentHandle a = true)
    (hns : ∀ b ∈ ns, t.urgentHandle b = true → t.isUrgent r = true) : t.DispatchLawful := by
  have hline : (t.record r).line = (s.record r).line := by simp only [Record.line, hs]
  have hmem : ∀ n k, k ∈ (t.line n).dispatchQ ↔
      k ∈ (s.line n).dispatchQ ∨ (n = (s.record r).line ∧ k = t.handleOf r) := by
    intro n k
    by_cases hn : n = (s.record r).line
    · subst hn; rw [hnew, hold]; simp only [List.mem_append, List.mem_cons, true_and]; tauto
    · rw [hother n hn]; simp [hn]
  have hold' : ∀ n, ∀ k ∈ (s.line n).dispatchQ, k.index ≠ r := fun n k hk => h.not_mem hr hk
  have hpair : ∀ n, (s.line n).dispatchQ.Pairwise (fun a b => t.urgentHandle b = true → t.urgentHandle a = true) := by
    intro n
    refine ((dropWhile_all_false_iff _ _).mp (h.urgent n)).imp_of_mem fun {a b} ha hb hab => ?_
    simpa only [State.urgentHandle, State.isUrgent, hrest _ (hold' n a ha), hrest _ (hold' n b hb)] using hab
  constructor
  · intro n k hk
    rcases (hmem n k).mp hk with hk | ⟨rfl, rfl⟩
    · have hi := hrest _ (hold' n k hk)
      simpa only [State.handleOf, hi] using h.queued n k hk
    · exact ⟨rfl, ht, hline⟩
  · intro n
    by_cases hn : n = (s.record r).line
    · subst hn
      have hnot : t.handleOf r ∉ us ++ ns := fun hm => hold' _ _ (hold ▸ hm) rfl
      rw [hnew, List.nodup_middle, List.nodup_cons]
      exact ⟨hnot, hold ▸ h.once _⟩
    · rw [hother n hn]; exact h.once n
  · intro i hi
    rw [hmem]
    by_cases hir : i = r
    · subst hir; exact .inr ⟨hline, rfl⟩
    · have he := hrest i hir
      refine .inl ?_
      simp only [State.handleOf, he] at hi ⊢
      exact h.all i hi
  · intro n
    rw [dropWhile_all_false_iff]
    by_cases hn : n = (s.record r).line
    · subst hn
      have hp := hpair (s.record r).line
      rw [hold, List.pairwise_append] at hp
      obtain ⟨h1, h2, h3⟩ := hp
      rw [hnew, List.pairwise_append, List.pairwise_cons]
      refine ⟨h1, ⟨fun b hb hu => hns b hb hu, h2⟩, fun a ha b hb hu => ?_⟩
      rcases List.mem_cons.mp hb with rfl | hb
      · exact hus hu a ha
      · exact h3 a ha b hb hu
    · rw [hother n hn]; exact hpair n

end Sys2Proof.Machine
end

section
/-!
What the arbiter and the ending of records do to the dispatch queues, the completion queue and the records.
-/

namespace Sys2Proof.Machine

open Relation (ReflTransGen)

/-! ### The completion queue (R141) -/

theorem State.CompletionLawful.congr {s t : State} (h : s.CompletionLawful) (hq : t.completionQ = s.completionQ)
    (hr : ∀ r, (t.record r).state.terminal = (s.record r).state.terminal) : t.CompletionLawful :=
  ⟨hq ▸ h.once, fun r => by rw [hq, hr]; exact h.all r⟩

theorem State.SameTable.completion {s t : State} (k : s.SameTable t) (h : s.CompletionLawful) : t.CompletionLawful :=
  h.congr k.quiet.completionQ (fun r => by rw [State.record_congr k.records])

@[simp] theorem Record.ended_terminal (o : ExchOutcome) (x : Record) : (x.ended o).state.terminal = true := by
  simp only [Record.ended]; split <;> rfl

theorem Record.ended_not_queued (o : ExchOutcome) (x : Record) : (x.ended o).state ≠ .queued := by
  simp only [Record.ended]; split <;> simp

theorem State.completion_endRecords {s : State} (h : s.CompletionLawful) (o : ExchOutcome) (f : Bool)
    {rs : List RecordIdx} (hn : rs.Nodup) (hr : ∀ r ∈ rs, (s.record r).state.terminal = false) :
    (s.endRecords o f rs).CompletionLawful := by
  have hout : ∀ r ∈ rs, r ∉ s.completionQ := fun r hm hq => by
    rw [h.all, hr r hm] at hq
    cases hq
  constructor
  · rw [State.endRecords_queue, List.nodup_append]
    exact ⟨h.once, hn, fun a ha b hb hab => hout b hb (hab ▸ ha)⟩
  · intro r
    rw [State.endRecords_queue, List.mem_append, State.record_endRecords, h.all]
    split
    · simp_all
    · simp_all

/-! ### Ending records (R15, R72, R85) -/

/-- The places that an event which ends records takes out of a line's dispatch queue (R85). -/
theorem State.line_endAll (o : ExchOutcome) (f : Bool) (rs : List RecordIdx) (s : State) (n : LineNo) :
    (s.endAll o f rs).line n =
      { s.line n with
        dispatchQ := (s.line n).dispatchQ.filter
          (fun h => !rs.any (fun r => r == h.index && (s.record r).line == n)) } := by
  induction rs generalizing s with
  | nil => simp [State.endAll]
  | cons r rs ih =>
    show ((s.endOne o f r).endAll o f rs).line n = _
    have hline : ∀ i, ((s.endOne o f r).record i).line = (s.record i).line := by
      intro i
      rw [State.record_endOne]
      split
      · subst i; rfl
      · rfl
    rw [ih, State.line_endOne]
    simp only [hline]
    by_cases hn : n = (s.record r).line
    · subst hn
      simp only [if_true, List.filter_filter, List.any_cons, beq_self_eq_true, Bool.and_true, Bool.not_or, bne,
        Bool.beq_comm (a := r)]
      congr 1
      refine List.filter_congr fun k _ => ?_
      rw [Bool.and_comm, BEq.comm]
    · have hr : ((s.record r).line == n) = false := by simpa using Ne.symm hn
      simp [hn, hr]

theorem State.line_endRecords (o : ExchOutcome) (f : Bool) (rs : List RecordIdx) (s : State) (n : LineNo) :
    (s.endRecords o f rs).line n =
      { s.line n with
        dispatchQ := (s.line n).dispatchQ.filter
          (fun h => !rs.any (fun r => r == h.index && (s.record r).line == n)) } := by
  rw [State.endRecords_eq, State.line_congr (State.enterCompletion_lines rs _), State.line_endAll]

/-- Only fence places change in an entry when records end (R72). -/
theorem State.entry_endAll (o : ExchOutcome) (f : Bool) (rs : List RecordIdx) (s : State) (st : StationIdx) :
    (s.endAll o f rs).entry st = { s.entry st with fence := ((s.endAll o f rs).entry st).fence } := by
  induction rs generalizing s with
  | nil => rfl
  | cons r rs ih =>
    show ((s.endOne o f r).endAll o f rs).entry st =
      { s.entry st with fence := (((s.endOne o f r).endAll o f rs).entry st).fence }
    have h1 : (s.endOne o f r).entry st = { s.entry st with fence := ((s.endOne o f r).entry st).fence } := by
      rw [State.entry_endOne]
      cases (s.record r).seq with
      | none => rfl
      | some q => simp only; split <;> rfl
    rw [ih, h1]

theorem State.entry_endRecords (o : ExchOutcome) (f : Bool) (rs : List RecordIdx) (s : State) (st : StationIdx) :
    (s.endRecords o f rs).entry st = { s.entry st with fence := ((s.endRecords o f rs).entry st).fence } := by
  simp only [State.endRecords_eq, State.entry_congr (State.enterCompletion_stations rs _)]
  exact State.entry_endAll o f rs s st

theorem State.links_endRecords (o : ExchOutcome) (f : Bool) (rs : List RecordIdx) (s : State) :
    s.SameLinks (s.endRecords o f rs) :=
  ⟨fun st => by rw [State.entry_endRecords], fun n => by rw [State.line_endRecords],
    fun n _ h => by rw [State.line_endRecords]; exact h⟩

theorem State.dispatch_endRecords {s : State} (h : s.DispatchLawful) (o : ExchOutcome) (f : Bool)
    (rs : List RecordIdx) : (s.endRecords o f rs).DispatchLawful := by
  refine h.leave (fun r => decide (r ∈ rs)) (fun n => ?_) (fun r hr => ?_) (fun r hr => ?_)
  · rw [State.line_endRecords]
    refine List.filter_congr fun k hk => ?_
    obtain ⟨-, -, hl⟩ := h.queued n k hk
    rw [Bool.eq_iff_iff]
    simp only [Bool.not_eq_true', List.any_eq_false, Bool.and_eq_true, beq_iff_eq, not_and, decide_eq_false_iff_not]
    exact ⟨fun hn hm => hn _ hm rfl hl, fun hn r hm he => absurd (he ▸ hm) hn⟩
  · rw [State.record_endRecords, if_pos (by simpa using hr)]
    exact Record.ended_not_queued o _
  · rw [State.record_endRecords, if_neg (by simpa using hr)]
    exact Record.SameInQueue.refl _

/-! ### One event on the Exchange Table -/

/-- An event on the Exchange Table: every record goes through changes of live records, and both queues stay lawful. -/
structure State.Evolves (s t : State) : Prop where
  rest : s.Rest t
  records : ∀ r, Record.Moves s.params.holdoffLimit (s.record r) (t.record r)
  dispatch : t.DispatchLawful
  completion : s.CompletionLawful → t.CompletionLawful

theorem State.Evolves.trans {s t u : State} (h : s.Evolves t) (k : t.Evolves u) : s.Evolves u :=
  ⟨h.rest.trans k.rest, fun r => (h.records r).trans (by have := k.records r; rwa [h.rest.params] at this), k.dispatch,
    fun hc => k.completion (h.completion hc)⟩

theorem State.SameTable.evolves {s t : State} (k : s.SameTable t) (h : s.DispatchLawful) : s.Evolves t :=
  ⟨k.quiet.rest, fun r => by rw [State.record_congr k.records], k.dispatch h, k.completion⟩

theorem State.Still.evolves {s t : State} (k : s.Still t) (h : s.DispatchLawful) : s.Evolves t := k.table.evolves h

/-- Live records fail (R15). -/
theorem State.evolves_endRecords {s : State} (h : s.DispatchLawful) {o : ExchOutcome} (ho : o ≠ .done) (f : Bool)
    {rs : List RecordIdx} (hn : rs.Nodup) (hr : ∀ r ∈ rs, (s.record r).state.live = true) :
    s.Evolves (s.endRecords o f rs) := by
  refine ⟨s.rest_endRecords o f rs, fun r => ?_, s.dispatch_endRecords h o f rs,
    fun hc => State.completion_endRecords hc o f hn fun r hm => RecState.not_terminal_of_live (hr r hm)⟩
  rw [State.record_endRecords]
  split
  · exact .single (.failed o ho (hr r ‹_›))
  · exact .refl

theorem State.nodup_liveWhere (s : State) (p : Record → Bool) : (s.liveWhere p).Nodup :=
  (s.liveWhere_ascending p).imp fun h => ne_of_lt h

/-- A sweep ends live records (R15). -/
theorem State.evolves_sweep {s : State} (h : s.DispatchLawful) {o : ExchOutcome} (ho : o ≠ .done) (f : Bool)
    (p : Record → Bool) : s.Evolves (s.endRecords o f (s.liveWhere p)) :=
  State.evolves_endRecords h ho f (s.nodup_liveWhere p) fun r hr => ((s.mem_liveWhere p r).mp hr).1

/-! ### A record leaves its queue for a state of its own -/

/-- The dispatch queue of a line after a record has left it (R85). -/
theorem State.line_leaveDispatch (r : RecordIdx) (s : State) (n : LineNo) :
    (s.leaveDispatch r).line n =
      if n = (s.record r).line then
        { s.line n with dispatchQ := (s.line n).dispatchQ.filter (fun k => k.index != r) }
      else s.line n := by
  by_cases h : n = (s.record r).line
  · subst h; simp [State.leaveDispatch]
  · simp [State.leaveDispatch, State.line_setLine_ne _ h, h]

theorem State.links_leaveDispatch (r : RecordIdx) (s : State) : s.SameLinks (s.leaveDispatch r) :=
  s.sameLinks_setLine _ rfl (fun _ h => h)

theorem State.links_setRecord (s : State) (r : RecordIdx) (x : Record) : s.SameLinks (s.setRecord r x) :=
  ⟨fun _ => rfl, fun _ => rfl, fun _ _ h => h⟩

/-- In lawful queues a record stands on its own line alone, so its leaving is the same filter on every line. -/
theorem State.DispatchLawful.leaveDispatch_queue {s : State} (h : s.DispatchLawful) (r : RecordIdx) (n : LineNo) :
    ((s.leaveDispatch r).line n).dispatchQ = (s.line n).dispatchQ.filter (fun k => !(k.index == r)) := by
  rw [State.line_leaveDispatch]
  split
  · rfl
  · refine (List.filter_eq_self.mpr fun k hk => ?_).symm
    obtain ⟨-, -, hl⟩ := h.queued n k hk
    simp only [Bool.not_eq_true', beq_eq_false_iff_ne]
    rintro rfl
    exact absurd hl.symm ‹_›

/-- A record leaves its dispatch queue and takes a value that is not QUEUED (R85). -/
theorem State.DispatchLawful.leaveWith {s t : State} (h : s.DispatchLawful) (r : RecordIdx)
    (hq : ∀ n, (t.line n).dispatchQ = ((s.leaveDispatch r).line n).dispatchQ)
    (hr : (t.record r).state ≠ .queued) (hrest : ∀ i, i ≠ r → t.record i = s.record i) : t.DispatchLawful := by
  refine h.leave (fun i => i == r) (fun n => by rw [hq, h.leaveDispatch_queue]) (fun i hi => ?_) (fun i hi => ?_)
  · rw [beq_iff_eq] at hi; subst hi; exact hr
  · rw [hrest i (by simpa using hi)]; exact Record.SameInQueue.refl _

/-! ### The arbiter (R89 to R92) -/

theorem State.record_dispatchWith (n : LineNo) (h : Handle) (q : SeqNo) (s : State) (i : RecordIdx) :
    (s.dispatchWith n h q).record i =
      if i = h.index then
        { s.record i with state := .transmitting, seq := some q, transmissions := (s.record i).transmissions + 1 }
      else s.record i := by
  simp only [State.dispatchWith, State.startFrame, State.record_setLine, State.record_setRecord,
    State.record_leaveDispatch]
  split
  · subst i; rfl
  · rfl

theorem State.links_dispatchWith (n : LineNo) (h : Handle) (q : SeqNo) (s : State) :
    s.SameLinks (s.dispatchWith n h q) := by
  unfold State.dispatchWith
  refine State.SameLinks.trans ?_ (State.still_startFrame n _ _ _).links
  exact (s.links_leaveDispatch h.index).trans (State.links_setRecord _ _ _)

theorem State.evolves_dispatchWith {s : State} (hd : s.DispatchLawful) (n : LineNo) {h : Handle} (q : SeqNo)
    (hq : (s.record h.index).state = .queued) : s.Evolves (s.dispatchWith n h q) := by
  have hrec := s.record_dispatchWith n h q
  refine ⟨(s.quiet_dispatchWith n h q).rest, fun r => ?_, ?_, fun hc => hc.congr (s.quiet_dispatchWith n h q).completionQ
    fun r => ?_⟩
  · rw [hrec]
    split
    · subst r; exact .single (.dispatched q hq)
    · exact .refl
  · refine hd.leaveWith h.index (fun m => ?_) (by rw [hrec]; simp) (fun i hi => by rw [hrec, if_neg hi])
    unfold State.dispatchWith
    exact (State.still_startFrame n _ _ _).table.queues m
  · rw [hrec]
    split
    · subst r; rw [hq]; rfl
    · rfl

theorem State.links_dispatch (n : LineNo) (h : Handle) (s : State) : s.SameLinks (s.dispatch n h) := by
  unfold State.dispatch
  split
  · exact s.links_dispatchWith n h _
  · split
    · refine State.SameLinks.trans ?_ (State.links_dispatchWith n h _ _)
      exact (s.still_setEntry _).links
    · exact State.SameLinks.refl s

theorem State.evolves_dispatch {s : State} (hd : s.DispatchLawful) (n : LineNo) {h : Handle}
    (hq : (s.record h.index).state = .queued) : s.Evolves (s.dispatch n h) := by
  unfold State.dispatch
  split
  · exact State.evolves_dispatchWith hd n _ hq
  · split
    case h_1 q _ =>
      have k := s.still_setEntry (s.record h.index).station
        (e := { s.entry (s.record h.index).station with cursor := q + 1 }) rfl
      exact (k.evolves hd).trans (State.evolves_dispatchWith (k.table.dispatch hd) n q hq)
    case h_2 => exact (State.Still.refl s).evolves hd

theorem State.links_choose (n : LineNo) (s : State) : s.SameLinks (s.choose n) := by
  rcases State.choose_cases n s with h | ⟨-, -, -, ⟨c, rest, hc, h⟩ | ⟨h', -, -, -, h⟩⟩ <;> rw [h]
  · exact State.SameLinks.refl s
  · have hl := s.still_setLine n (l := { s.line n with controlQ := rest }) rfl rfl
      (fun _ hn => by rw [hc] at hn; cases hn)
    exact (hl.trans (State.still_startFrame n _ _ _)).links
  · exact s.links_dispatch n h'

theorem State.evolves_choose {s : State} (hd : s.DispatchLawful) (n : LineNo) : s.Evolves (s.choose n) := by
  rcases State.choose_cases n s with h | ⟨-, -, -, ⟨c, rest, hc, h⟩ | ⟨h', -, hm, -, h⟩⟩ <;> rw [h]
  · exact (State.Still.refl s).evolves hd
  · have hl := s.still_setLine n (l := { s.line n with controlQ := rest }) rfl rfl
      (fun _ hn => by rw [hc] at hn; cases hn)
    exact (hl.trans (State.still_startFrame n _ _ _)).evolves hd
  · exact State.evolves_dispatch hd n (hd.queued n h' hm).2.1

theorem State.links_settle (n : LineNo) (s : State) : s.SameLinks (s.settle n) :=
  (s.still_serviceTests n).links.trans (State.links_choose n _)

theorem State.evolves_settle {s : State} (hd : s.DispatchLawful) (n : LineNo) : s.Evolves (s.settle n) :=
  have k := s.still_serviceTests n
  (k.evolves hd).trans (State.evolves_choose (k.table.dispatch hd) n)

theorem State.links_foldl {α : Type} (f : State → α → State) (hf : ∀ (s : State) (a : α), s.SameLinks (f s a))
    (as : List α) (s : State) : s.SameLinks (as.foldl f s) := by
  induction as generalizing s with
  | nil => exact State.SameLinks.refl s
  | cons a as ih => exact (hf s a).trans (ih (f s a))

theorem State.evolves_chooseAll {s : State} (hd : s.DispatchLawful) : s.Evolves s.chooseAll := by
  unfold State.chooseAll
  generalize List.finRange 8 = ns
  induction ns generalizing s with
  | nil => exact (State.Still.refl s).evolves hd
  | cons n ns ih =>
    have k := State.evolves_choose hd n
    exact k.trans (ih k.dispatch)

theorem State.links_chooseAll (s : State) : s.SameLinks s.chooseAll :=
  State.links_foldl _ (fun s n => s.links_choose n) _ s

end Sys2Proof.Machine
end

section
/-!
The laws of Safety as a whole, and what it takes for the state after an event to keep them. `State.Keeps` speaks of the
laws and the bounds of the counts together, `State.KeepsTable` of the Exchange Table without the port.
-/

namespace Sys2Proof.Machine

/-- The laws that do not speak of the port. -/
structure State.TableLawful (s : State) : Prop where
  shaped : s.RecordsShaped
  dispatch : s.DispatchLawful
  completion : s.CompletionLawful
  live : s.LiveLawful

theorem State.Lawful.table {s : State} (h : s.Lawful) : s.TableLawful := ⟨h.shaped, h.dispatch, h.completion, h.live⟩

/-- Parameters in their ranges and records within their counts. -/
structure State.Counts (s : State) : Prop where
  params : s.params.InRange
  records : s.RecordsCounted

/-- `t` has the laws of the Exchange Table, and the counts when `s` had them. -/
structure State.KeepsTable (s t : State) : Prop where
  table : t.TableLawful
  counts : s.Counts → t.Counts

/-- `t` is lawful, and has the counts when `s` had them. -/
structure State.KeepsLaws (s t : State) : Prop where
  lawful : t.Lawful
  counts : s.Counts → t.Counts

/-- The same, and no record becomes reserved for the transaction in progress. -/
structure State.Keeps (s t : State) : Prop extends s.KeepsLaws t where
  free : s.port.reserved = none → t.port.reserved = none

theorem State.Keeps.refl {s : State} (h : s.Lawful) : s.Keeps s := ⟨⟨h, id⟩, id⟩

theorem State.KeepsLaws.trans {s t u : State} (h : s.KeepsLaws t) (k : t.KeepsLaws u) : s.KeepsLaws u :=
  ⟨k.lawful, fun c => k.counts (h.counts c)⟩

theorem State.Keeps.trans {s t u : State} (h : s.Keeps t) (k : t.Keeps u) : s.Keeps u :=
  ⟨h.toKeepsLaws.trans k.toKeepsLaws, fun hp => k.free (h.free hp)⟩

theorem State.KeepsTable.trans {s t u : State} (h : s.KeepsTable t) (k : t.KeepsTable u) : s.KeepsTable u :=
  ⟨k.table, fun c => k.counts (h.counts c)⟩

theorem State.Keeps.keepsTable {s t : State} (h : s.Keeps t) : s.KeepsTable t := ⟨h.lawful.table, h.counts⟩

/-- The laws of the table speak of the records, the stations, the lines and the completion queue alone. -/
theorem State.TableLawful.congr {s t : State} (h : s.TableLawful) (hr : t.records = s.records)
    (hs : t.stations = s.stations) (hl : t.lines = s.lines) (hq : t.completionQ = s.completionQ) : t.TableLawful := by
  have hrec : ∀ r, t.record r = s.record r := State.record_congr hr
  have hent : ∀ st, t.entry st = s.entry st := State.entry_congr hs
  have hline : ∀ n, t.line n = s.line n := State.line_congr hl
  refine ⟨fun r => hrec r ▸ h.shaped r, h.dispatch.congr (fun n => by rw [hline]) fun r => ?_,
    h.completion.congr hq fun r => by rw [hrec], fun r => ?_, fun st => ?_, fun n => ?_⟩
  · rw [hrec]; exact Record.SameInQueue.refl _
  · rw [hrec, hent]; exact h.live.station r
  · rw [hent, hline]; exact h.live.link st
  · rw [hline]; exact h.live.control n

theorem State.Counts.congr {s t : State} (h : s.Counts) (hp : t.params = s.params) (hr : t.records = s.records) :
    t.Counts :=
  ⟨hp ▸ h.params, fun r => by rw [State.record_congr hr]; exact h.records r⟩

/-! ### Live records, their stations and lines (R15, R57, R58, R88) -/

theorem State.LiveLawful.keep {s t : State} (h : s.LiveLawful) (k : s.SameLinks t)
    (hr : ∀ r, (t.record r).state.live = true →
      (s.record r).state.live = true ∧ (t.record r).station = (s.record r).station) : t.LiveLawful := by
  refine ⟨fun r hl => ?_, fun st hp => ?_, fun n hn => ?_⟩
  · obtain ⟨h1, h2⟩ := hr r hl
    rw [k.stations, h2]
    exact h.station r h1
  · rw [k.links]
    exact h.link st (by rw [← k.stations]; exact hp)
  · rw [k.links] at hn
    exact k.control n hn (h.control n hn)

theorem State.Evolves.live_record {s t : State} (e : s.Evolves t) (r : RecordIdx)
    (h : (t.record r).state.live = true) :
    (s.record r).state.live = true ∧ (t.record r).station = (s.record r).station :=
  ⟨(e.records r).live h, (e.records r).station⟩

/-- A line none of whose stations is PRESENT any more, and none of whose records is live. -/
theorem State.LiveLawful.clear_line {s t : State} (h : s.LiveLawful) (n : LineNo)
    (hr : ∀ r, (t.record r).state.live = true → (s.record r).state.live = true ∧
      (t.record r).station = (s.record r).station ∧ (s.record r).line ≠ n)
    (hs : ∀ st, lineOf st ≠ n → (t.entry st).state = (s.entry st).state)
    (hn : ∀ st, lineOf st = n → (t.entry st).state ≠ .present)
    (hl : ∀ m, m ≠ n → (t.line m).link = (s.line m).link ∧ (t.line m).controlQ = (s.line m).controlQ)
    (hc : (t.line n).link ≠ .up → (t.line n).controlQ = []) : t.LiveLawful := by
  refine ⟨fun r hlive => ?_, fun st hp => ?_, fun m hm => ?_⟩
  · obtain ⟨h1, h2, h3⟩ := hr r hlive
    rw [h2, hs _ h3]
    exact h.station r h1
  · have hne : lineOf st ≠ n := fun he => hn st he hp
    rw [(hl _ hne).1]
    exact h.link st (by rw [← hs st hne]; exact hp)
  · by_cases hmn : m = n
    · subst hmn; exact hc hm
    · rw [(hl m hmn).2]
      exact h.control m (by rw [← (hl m hmn).1]; exact hm)

/-- A station that is no longer PRESENT, and of which no record is live. -/
theorem State.LiveLawful.clear_entry {s : State} (h : s.LiveLawful) (st : StationIdx) {e : Entry}
    (hr : ∀ r, (s.record r).state.live = true → (s.record r).station ≠ st) (he : e.state ≠ .present) :
    (s.setEntry st e).LiveLawful := by
  refine ⟨fun r hl => ?_, fun i hp => ?_, h.control⟩
  · show ((s.setEntry st e).entry (s.record r).station).state = .present
    rw [State.entry_setEntry_ne _ (hr r hl)]
    exact h.station r hl
  · by_cases hi : i = st
    · subst hi; rw [State.entry_setEntry_self] at hp; exact absurd hp he
    · rw [State.entry_setEntry_ne _ hi] at hp
      exact h.link i hp

/-! ### From one event to the laws -/

theorem State.Evolves.counted {s t : State} (e : s.Evolves t) (c : s.Counts) : t.Counts := by
  refine ⟨e.rest.params ▸ c.params, fun r => (e.records r).counted ?_ (c.records r)⟩
  exact (c.params .holdoffLimit 0 (by decide)).2

theorem State.Evolves.keepsTable {s t : State} (e : s.Evolves t) (h : s.TableLawful) (hl : t.LiveLawful) :
    s.KeepsTable t :=
  ⟨⟨fun r => (e.records r).shaped (h.shaped r), e.dispatch, e.completion h.completion, hl⟩, e.counted⟩

theorem State.Evolves.keepsTable_of_links {s t : State} (e : s.Evolves t) (h : s.TableLawful) (k : s.SameLinks t) :
    s.KeepsTable t :=
  e.keepsTable h (h.live.keep k e.live_record)

theorem State.operating_congr {s t : State} (h : t.power = s.power) : t.operating = s.operating := by
  simp only [State.operating, h]

/-- The laws of the port look at its transaction and at which records are RESERVED or terminal. -/
theorem State.PortLawful.congr {s t : State} (h : s.PortLawful) (hp : t.port = s.port) (hpins : t.pins = s.pins)
    (hpower : t.power = s.power)
    (hr : ∀ r, (s.record r).state.terminal = true → (t.record r).state.terminal = true) : t.PortLawful := by
  refine ⟨?_, ?_, ?_, ?_, ?_, fun r hn => ?_⟩
  · rw [hp, hpins, State.operating_congr hpower]; exact h.opened
  · rw [hp]; exact h.counted
  · rw [hp]; exact h.held
  · rw [hp]; exact h.reserved
  · rw [hp]; exact h.named
  · rw [hp] at hn; exact hr r (h.terminal r hn)

theorem State.Evolves.keeps {s t : State} (e : s.Evolves t) (h : s.Lawful) (hl : t.LiveLawful) : s.Keeps t := by
  obtain ⟨⟨h1, h2, h3, h4⟩, hc⟩ := e.keepsTable h.table hl
  refine ⟨⟨⟨h1, h2, h3, fun r => ?_, h4, ?_⟩, hc⟩, fun hp => e.rest.port ▸ hp⟩
  · rw [(e.records r).reserved, e.rest.port]
    exact h.reserved r
  · exact h.port.congr e.rest.port e.rest.pins e.rest.power fun r => (e.records r).terminal

theorem State.Evolves.keeps_of_links {s t : State} (e : s.Evolves t) (h : s.Lawful) (k : s.SameLinks t) : s.Keeps t :=
  e.keeps h (h.live.keep k e.live_record)

theorem State.Still.keeps {s t : State} (k : s.Still t) (h : s.Lawful) : s.Keeps t :=
  (k.evolves h.dispatch).keeps_of_links h k.links

theorem State.keeps_choose {s : State} (h : s.Lawful) (n : LineNo) : s.Keeps (s.choose n) :=
  (State.evolves_choose h.dispatch n).keeps_of_links h (s.links_choose n)

theorem State.keeps_settle {s : State} (h : s.Lawful) (n : LineNo) : s.Keeps (s.settle n) :=
  (State.evolves_settle h.dispatch n).keeps_of_links h (s.links_settle n)

theorem State.keeps_report {s : State} (h : s.Lawful) (o : Occurrence) : s.Keeps (s.report o) :=
  (s.still_report o).keeps h

theorem State.Keeps.choose {s t : State} (k : s.Keeps t) (n : LineNo) : s.Keeps (t.choose n) :=
  k.trans (State.keeps_choose k.lawful n)

theorem State.Keeps.settle {s t : State} (k : s.Keeps t) (n : LineNo) : s.Keeps (t.settle n) :=
  k.trans (State.keeps_settle k.lawful n)

theorem State.Keeps.still {s t u : State} (k : s.Keeps t) (h : t.Still u) : s.Keeps u := k.trans (h.keeps k.lawful)

theorem State.Keeps.probeSweep {s t : State} (k : s.Keeps t) (n : LineNo) : s.Keeps (t.probeSweep n) :=
  k.still (t.still_probeSweep n)

/-- A step that is taken only under a condition. -/
theorem State.keeps_ite {s t : State} (c : Prop) [Decidable c] (h : s.Lawful) (k : c → s.Keeps t) :
    s.Keeps (if c then t else s) := by
  split
  · exact k ‹_›
  · exact State.Keeps.refl h

/-! ### The port -/

/-- While the port holds no record, none is RESERVED (R29). -/
theorem State.Lawful.none_reserved {s : State} (h : s.Lawful) (hp : s.port.reserved = none) (r : RecordIdx) :
    (s.record r).state ≠ .reserved := by
  rw [Ne, h.reserved r, hp]
  exact nofun

/-- A port that holds no record, and the Exchange Table lawful. -/
theorem State.TableLawful.lawful {s : State} (h : s.TableLawful) (hr : ∀ r, (s.record r).state ≠ .reserved)
    (hres : s.port.reserved = none) (hnam : s.port.named = none)
    (hopen : s.port.phase = .opened → s.operating = true ∧ s.pins.csnHigh = false)
    (hcount : s.port.bytes.length ≤ s.port.count) : s.Lawful := by
  refine ⟨h.shaped, h.dispatch, h.completion, fun r => ?_, h.live, hopen, hcount, ?_, ?_, ?_, ?_⟩
  · rw [hres]; exact ⟨fun hx => absurd hx (hr r), nofun⟩
  · rw [hres, hnam]; simp
  · rw [hres]; simp
  · rw [hnam]; simp
  · rw [hnam]; exact nofun

/-- Only fields of the port that the laws do not speak of change, or its bytes are counted on. -/
theorem State.keeps_port {s : State} (h : s.Lawful) (p : Port) (hphase : p.phase = s.port.phase)
    (hstatus : p.status = s.port.status) (hbytes : p.bytes = s.port.bytes) (hcount : s.port.count ≤ p.count)
    (hres : p.reserved = s.port.reserved) (hnam : p.named = s.port.named) : s.Keeps { s with port := p } := by
  have ht : State.TableLawful { s with port := p } := h.table.congr rfl rfl rfl rfl
  have hop : p.op = s.port.op := by simp only [Port.op, hbytes]
  refine ⟨⟨⟨ht.shaped, ht.dispatch, ht.completion, fun r => ?_, ht.live, ?_, ?_, ?_, ?_, ?_, ?_⟩,
    fun c => c.congr rfl rfl⟩, fun hp => hres.trans hp⟩
  · show (s.record r).state = .reserved ↔ p.reserved = some r
    rw [hres]; exact h.reserved r
  · show p.phase = _ → _
    rw [hphase]; exact h.port.opened
  · show p.bytes.length ≤ p.count
    rw [hbytes]; exact h.port.counted.trans hcount
  · show p.reserved.isSome = true ∨ p.named.isSome = true →
      p.phase = .opened ∧ p.status.getLsbD 2 = false ∧ p.bytes.length ≤ p.count
    rw [hres, hnam, hphase, hstatus, hbytes]
    intro hh
    obtain ⟨h1, h2, h3⟩ := h.port.held hh
    exact ⟨h1, h2, h3.trans hcount⟩
  · show p.reserved.isSome = true → p.op = some .post ∧ p.bytes.length = 5
    rw [hres, hop, hbytes]; exact h.port.reserved
  · show p.named.isSome = true → (p.op = some .collect ∧ p.bytes.length = 3) ∨
      (p.op = some .collectNext ∧ p.bytes.length = 1)
    rw [hnam, hop, hbytes]; exact h.port.named
  · intro r hn
    exact h.port.terminal r (hnam ▸ hn)

theorem State.keeps_respond {s : State} (h : s.Lawful) (bs : List Byte) : s.Keeps (s.respond bs) :=
  State.keeps_port h _ rfl rfl rfl le_rfl rfl rfl

/-- The rise of CSn discards the port's part of the laws (R183). -/
theorem State.KeepsTable.closePort {s t : State} (k : s.KeepsTable t) (hr : ∀ r, (t.record r).state ≠ .reserved) :
    s.KeepsLaws t.closePort :=
  ⟨State.TableLawful.lawful (k.table.congr rfl rfl rfl rfl) hr rfl rfl nofun (Nat.le_refl _),
    fun c => (k.counts c).congr rfl rfl⟩

theorem State.Keeps.closePort {s t : State} (k : s.Keeps t) (hp : s.port.reserved = none) :
    s.KeepsLaws t.closePort :=
  k.keepsTable.closePort (k.lawful.none_reserved (k.free hp))

/-- A change of parts of the state that the laws do not speak of. -/
theorem State.keeps_of_same {s t : State} (h : s.Lawful) (hr : t.records = s.records) (hs : t.stations = s.stations)
    (hl : t.lines = s.lines) (hq : t.completionQ = s.completionQ) (hp : t.port = s.port) (hpow : t.power = s.power)
    (hpins : t.pins.csnHigh = s.pins.csnHigh) (hc : s.Counts → t.Counts) : s.Keeps t := by
  have ht := h.table.congr hr hs hl hq
  have hrec : ∀ r, t.record r = s.record r := State.record_congr hr
  refine ⟨⟨⟨ht.shaped, ht.dispatch, ht.completion, fun r => ?_, ht.live, ?_, ?_, ?_, ?_, ?_, fun r => ?_⟩, hc⟩, ?_⟩
  · rw [hrec, hp]; exact h.reserved r
  · rw [hp, hpins, State.operating_congr hpow]; exact h.port.opened
  · rw [hp]; exact h.port.counted
  · rw [hp]; exact h.port.held
  · rw [hp]; exact h.port.reserved
  · rw [hp]; exact h.port.named
  · rw [hp, hrec]; exact h.port.terminal r
  · rw [hp]; exact id

end Sys2Proof.Machine
end

section
/-!
The operations of exchanges, frames, stations and lines keep the laws and the counts.
-/

namespace Sys2Proof.Machine

open Relation (ReflTransGen)

/-! ### Entering a dispatch queue (R10, R14, R84) -/

/-- Where the tail of a class is: every record of a higher class before it, and none of a lower class (R84). -/
theorem State.atClassTail_split (s : State) (h : Handle) (q : List Handle) :
    ∃ us ns, q = us ++ ns ∧ s.atClassTail h q = us ++ h :: ns ∧
      (s.isUrgent h.index = true → ∀ a ∈ us, s.urgentHandle a = true) ∧
      (∀ b ∈ ns, s.urgentHandle b = true → s.isUrgent h.index = true) := by
  unfold State.atClassTail
  split
  · exact ⟨_, _, List.takeWhile_append_dropWhile.symm, rfl, fun _ a ha => List.mem_takeWhile_imp ha, fun _ _ _ => ‹_›⟩
  · exact ⟨q, [], by simp, rfl, fun hu => absurd hu ‹_›, nofun⟩

/-- Where the head of a class is (R84). -/
theorem State.atClassHead_split (s : State) (h : Handle) (q : List Handle)
    (hq : ∀ k ∈ q.dropWhile s.urgentHandle, s.urgentHandle k = false) :
    ∃ us ns, q = us ++ ns ∧ s.atClassHead h q = us ++ h :: ns ∧
      (s.isUrgent h.index = true → ∀ a ∈ us, s.urgentHandle a = true) ∧
      (∀ b ∈ ns, s.urgentHandle b = true → s.isUrgent h.index = true) := by
  unfold State.atClassHead
  split
  · exact ⟨[], q, rfl, rfl, fun _ => nofun, fun _ _ _ => ‹_›⟩
  · refine ⟨_, _, List.takeWhile_append_dropWhile.symm, rfl, fun hu => absurd hu ‹_›, fun b hb hu => ?_⟩
    rw [hq b hb] at hu
    cases hu

/-- The record that a state's queueing makes of `x`. -/
def Record.requeued (x : Record) : Record := { x with state := .queued, deadline := none }

theorem State.record_queueAtTail (r i : RecordIdx) (s : State) :
    (s.queueAtTail r).record i = if i = r then (s.record r).requeued else s.record i :=
  s.record_setRecord r i _

theorem State.record_queueAtHead (r i : RecordIdx) (s : State) :
    (s.queueAtHead r).record i = if i = r then (s.record r).requeued else s.record i :=
  s.record_setRecord r i _

theorem State.queueAtTail_eq (r : RecordIdx) (s : State) :
    s.queueAtTail r = (s.setRecord r (s.record r).requeued).setLine (s.record r).line
      { s.line (s.record r).line with
        dispatchQ := (s.setRecord r (s.record r).requeued).atClassTail (s.handleOf r)
          (s.line (s.record r).line).dispatchQ } := by
  simp only [State.queueAtTail, State.handleOf, State.record_setRecord_self, State.line_setRecord]
  rfl

theorem State.line_queueAtTail (r : RecordIdx) (n : LineNo) (s : State) :
    (s.queueAtTail r).line n =
      if n = (s.record r).line then
        { s.line n with
          dispatchQ := (s.setRecord r (s.record r).requeued).atClassTail (s.handleOf r) (s.line n).dispatchQ }
      else s.line n := by
  rw [State.queueAtTail_eq, State.line_setLine]
  split
  · subst n; rfl
  · rfl

theorem State.queueAtHead_eq (r : RecordIdx) (s : State) :
    s.queueAtHead r = (s.setRecord r (s.record r).requeued).setLine (s.record r).line
      { s.line (s.record r).line with
        dispatchQ := (s.setRecord r (s.record r).requeued).atClassHead (s.handleOf r)
          (s.line (s.record r).line).dispatchQ } := by
  simp only [State.queueAtHead, State.handleOf, State.record_setRecord_self, State.line_setRecord]
  rfl

theorem State.line_queueAtHead (r : RecordIdx) (n : LineNo) (s : State) :
    (s.queueAtHead r).line n =
      if n = (s.record r).line then
        { s.line n with
          dispatchQ := (s.setRecord r (s.record r).requeued).atClassHead (s.handleOf r) (s.line n).dispatchQ }
      else s.line n := by
  rw [State.queueAtHead_eq, State.line_setLine]
  split
  · subst n; rfl
  · rfl

/-- Queueing changes no priority, so a handle is urgent after it as before. -/
theorem State.isUrgent_requeued (s : State) (r i : RecordIdx) :
    (s.setRecord r (s.record r).requeued).isUrgent i = s.isUrgent i := by
  simp only [State.isUrgent, State.record_setRecord]
  split
  · subst i; rfl
  · rfl

theorem State.urgentHandle_requeued (s : State) (r : RecordIdx) :
    (s.setRecord r (s.record r).requeued).urgentHandle = s.urgentHandle :=
  funext fun h => s.isUrgent_requeued r h.index

theorem State.quiet_queueAtTail (r : RecordIdx) (s : State) : s.Quiet (s.queueAtTail r) :=
  (s.quiet_setRecord r _).trans (State.quiet_setLine _ _ _)

theorem State.quiet_queueAtHead (r : RecordIdx) (s : State) : s.Quiet (s.queueAtHead r) :=
  (s.quiet_setRecord r _).trans (State.quiet_setLine _ _ _)

theorem State.links_queueAtTail (r : RecordIdx) (s : State) : s.SameLinks (s.queueAtTail r) :=
  ⟨fun _ => rfl, fun n => by rw [State.line_queueAtTail]; split <;> rfl,
    fun n _ h => by rw [State.line_queueAtTail]; split <;> exact h⟩

theorem State.links_queueAtHead (r : RecordIdx) (s : State) : s.SameLinks (s.queueAtHead r) :=
  ⟨fun _ => rfl, fun n => by rw [State.line_queueAtHead]; split <;> rfl,
    fun n _ h => by rw [State.line_queueAtHead]; split <;> exact h⟩

/-- A record enters its line's queue where the class has its tail or its head (R84). -/
theorem State.DispatchLawful.requeue {s t : State} (h : s.DispatchLawful) {r : RecordIdx}
    (hr : (s.record r).state ≠ .queued) {us ns : List Handle}
    (hrec : ∀ i, t.record i = if i = r then (s.record r).requeued else s.record i)
    (hline : ∀ m, m ≠ (s.record r).line → t.line m = s.line m)
    (hold : (s.line (s.record r).line).dispatchQ = us ++ ns)
    (hnew : (t.line (s.record r).line).dispatchQ = us ++ s.handleOf r :: ns)
    (hus : s.isUrgent r = true → ∀ a ∈ us, s.urgentHandle a = true)
    (hns : ∀ b ∈ ns, s.urgentHandle b = true → s.isUrgent r = true) : t.DispatchLawful := by
  have hself : t.record r = (s.record r).requeued := by rw [hrec, if_pos rfl]
  have hurg : ∀ i, t.isUrgent i = s.isUrgent i := by
    intro i
    unfold State.isUrgent
    rw [hrec]
    split
    · subst i; rfl
    · rfl
  have hhandle : t.handleOf r = s.handleOf r := by simp only [State.handleOf, hself]; rfl
  refine h.enter hr (by rw [hself]; rfl) (by rw [hself]; rfl) (fun i hi => by rw [hrec, if_neg hi]) hold
    (by rw [hhandle]; exact hnew) (fun m hm => by rw [hline m hm]) ?_ ?_
  · simpa only [State.urgentHandle, hurg] using hus
  · simpa only [State.urgentHandle, hurg] using hns

theorem State.dispatch_queueAtTail {s : State} (h : s.DispatchLawful) {r : RecordIdx}
    (hr : (s.record r).state ≠ .queued) : (s.queueAtTail r).DispatchLawful := by
  obtain ⟨us, ns, hold, hnew, hus, hns⟩ := (s.setRecord r (s.record r).requeued).atClassTail_split (s.handleOf r)
    (s.line (s.record r).line).dispatchQ
  rw [State.urgentHandle_requeued, State.isUrgent_requeued] at hus hns
  exact h.requeue hr (fun i => s.record_queueAtTail r i) (fun m hm => by rw [State.line_queueAtTail, if_neg hm]) hold
    (by rw [State.line_queueAtTail, if_pos rfl]; exact hnew) hus hns

theorem State.dispatch_queueAtHead {s : State} (h : s.DispatchLawful) {r : RecordIdx}
    (hr : (s.record r).state ≠ .queued) : (s.queueAtHead r).DispatchLawful := by
  obtain ⟨us, ns, hold, hnew, hus, hns⟩ := (s.setRecord r (s.record r).requeued).atClassHead_split (s.handleOf r)
    (s.line (s.record r).line).dispatchQ (by rw [State.urgentHandle_requeued]; exact h.urgent _)
  rw [State.urgentHandle_requeued, State.isUrgent_requeued] at hus hns
  exact h.requeue hr (fun i => s.record_queueAtHead r i) (fun m hm => by rw [State.line_queueAtHead, if_neg hm]) hold
    (by rw [State.line_queueAtHead, if_pos rfl]; exact hnew) hus hns

/-- The end of a holdoff wait (R135). -/
theorem State.evolves_queueAtHead {s : State} (h : s.DispatchLawful) {r : RecordIdx}
    (hr : (s.record r).state = .deferred) : s.Evolves (s.queueAtHead r) := by
  have hrec := State.record_queueAtHead r
  refine ⟨(s.quiet_queueAtHead r).rest, fun i => ?_, State.dispatch_queueAtHead h (by simp [hr]),
    fun hc => hc.congr (s.quiet_queueAtHead r).completionQ fun i => ?_⟩
  · rw [hrec]
    split
    · subst i; exact .single (.waited hr)
    · exact .refl
  · rw [hrec]
    split
    · subst i; rw [hr]; rfl
    · rfl

/-! ### One record takes another value -/

/-- A record that is not QUEUED changes, and neither enters nor leaves a queue. -/
theorem State.evolves_setRecord {s : State} (h : s.DispatchLawful) {r : RecordIdx} {x : Record}
    (hm : Record.Moves s.params.holdoffLimit (s.record r) x) (hq : (s.record r).SameInQueue x)
    (ht : x.state.terminal = (s.record r).state.terminal) : s.Evolves (s.setRecord r x) := by
  refine ⟨(s.quiet_setRecord r x).rest, fun i => ?_, h.congr (fun _ => rfl) fun i => ?_, fun hc => hc.congr rfl fun i => ?_⟩
  all_goals rw [State.record_setRecord]; split
  · subst i; exact hm
  · exact .refl
  · subst i; exact hq
  · exact Record.SameInQueue.refl _
  · subst i; exact ht
  · rfl

/-- The transmitter presents its handle (R12). -/
theorem State.evolves_presentHandle {s : State} (h : s.DispatchLawful) (k : Option Handle) :
    s.Evolves (s.presentHandle k) := by
  unfold State.presentHandle
  split
  · exact (State.Still.refl s).evolves h
  · dsimp only
    split
    case isTrue hc =>
      exact State.evolves_setRecord h (.single (.presented _ hc.2))
        (.of_not_queued (by rw [hc.2]; simp) (by simp)) (by rw [hc.2]; rfl)
    case isFalse => exact (State.Still.refl s).evolves h

theorem State.links_presentHandle (k : Option Handle) (s : State) : s.SameLinks (s.presentHandle k) := by
  unfold State.presentHandle
  split
  · exact State.SameLinks.refl s
  · dsimp only
    split
    · exact s.links_setRecord _ _
    · exact State.SameLinks.refl s

/-- A retry (R132). -/
theorem State.evolves_retry {s : State} (h : s.DispatchLawful) {r : RecordIdx} (hr : (s.record r).state = .sent)
    (hb : (s.record r).retriesUsed < (s.record r).retryBudget) : s.Evolves (s.retry r) := by
  have hrec : ∀ i, (s.retry r).record i =
      if i = r then { s.record r with retriesUsed := (s.record r).retriesUsed + 1, state := .queued, deadline := none }
      else s.record i := by
    intro i
    simp only [State.retry, State.record_queueAtHead, State.record_setRecord_self]
    split
    · rfl
    · exact State.record_setRecord_ne _ ‹_› _
  have hd : (s.setRecord r { s.record r with retriesUsed := (s.record r).retriesUsed + 1 }).DispatchLawful := by
    refine h.congr (fun _ => rfl) fun i => ?_
    rw [State.record_setRecord]
    split
    · subst i; exact .of_not_queued (by simp [hr]) (by simp [hr])
    · exact Record.SameInQueue.refl _
  have hquiet : s.Quiet (s.retry r) := (s.quiet_setRecord r _).trans (State.quiet_queueAtHead r _)
  refine ⟨hquiet.rest, fun i => ?_, State.dispatch_queueAtHead hd (by simp [hr]),
    fun hc => hc.congr hquiet.completionQ fun i => ?_⟩
  · rw [hrec]
    split
    · subst i; exact .single (.retried hr hb)
    · exact .refl
  · rw [hrec]
    split
    · subst i; rw [hr]; rfl
    · rfl

theorem State.links_retry (r : RecordIdx) (s : State) : s.SameLinks (s.retry r) :=
  (s.links_setRecord r _).trans (State.links_queueAtHead r _)

/-! ### Replies and holdoffs (R123 to R130) -/

/-- The record that holds a sequence: what the search for it says of the one it finds (R76). -/
theorem State.holder_some {s : State} {st : StationIdx} {q : SeqNo} {r : RecordIdx} (h : s.holder st q = some r) :
    (s.record r).holds = true ∧ (s.record r).station = st ∧ (s.record r).seq = some q := by
  have := List.find?_some h
  simpa [and_assoc] using this

theorem State.record_withdraw (r i : RecordIdx) (s : State) : (s.withdraw r).record i = s.record i := by
  unfold State.withdraw
  split <;> rfl

theorem State.quiet_withdraw (r : RecordIdx) (s : State) : s.Quiet (s.withdraw r) := by
  unfold State.withdraw
  split
  · exact s.quiet_leaveDispatch r
  · exact State.Quiet.refl s

theorem State.links_withdraw (r : RecordIdx) (s : State) : s.SameLinks (s.withdraw r) := by
  unfold State.withdraw
  split
  · exact s.links_leaveDispatch r
  · exact State.SameLinks.refl s

/-- In lawful queues only a QUEUED record stands in one, so its withdrawing is its leaving. -/
theorem State.DispatchLawful.withdraw_queue {s : State} (h : s.DispatchLawful) (r : RecordIdx) (n : LineNo) :
    ((s.withdraw r).line n).dispatchQ = ((s.leaveDispatch r).line n).dispatchQ := by
  unfold State.withdraw
  split
  · rfl
  · rw [h.leaveDispatch_queue]
    refine (List.filter_eq_self.mpr fun k hk => ?_).symm
    simpa using h.not_mem ‹_› hk

/-- A record that holds a sequence takes a frame, QUEUED or not (R13, R85). -/
theorem State.evolves_takeFrame {s : State} (h : s.DispatchLawful) {r : RecordIdx} {x : Record}
    (hm : Record.Move s.params.holdoffLimit (s.record r) x) (hx : x.state.inFlight = true) :
    s.Evolves ((s.withdraw r).setRecord r x) := by
  have hquiet : s.Quiet ((s.withdraw r).setRecord r x) := (s.quiet_withdraw r).trans (State.quiet_setRecord _ _ _)
  have hrec : ∀ i, ((s.withdraw r).setRecord r x).record i = if i = r then x else s.record i := by
    intro i; rw [State.record_setRecord, State.record_withdraw]
  refine ⟨hquiet.rest, fun i => ?_, h.leaveWith r (fun n => h.withdraw_queue r n) ?_ fun i hi => ?_,
    fun hc => hc.congr hquiet.completionQ fun i => ?_⟩
  · rw [hrec]
    split
    · subst i; exact .single hm
    · exact .refl
  · rw [hrec, if_pos rfl]
    rintro hq
    rw [hq] at hx
    cases hx
  · rw [hrec, if_neg hi]
  · rw [hrec]
    split
    · subst i
      rw [RecState.not_terminal_of_live hm.live, RecState.not_terminal_of_live (RecState.live_of_inFlight hx)]
    · rfl

theorem State.still_joined (was : RecState) (n : LineNo) (s : State) : s.Still (s.joined was n) := by
  unfold State.joined
  split
  · exact s.still_returnToDraining n
  · exact State.Still.refl s

theorem State.evolves_failByFrame {s : State} (h : s.DispatchLawful) {o : ExchOutcome} (ho : o ≠ .done)
    (k : ErrorKind) (n : LineNo) (f : Frame) {r : RecordIdx} (hr : (s.record r).holds = true) :
    s.Evolves (s.failByFrame o k n f r) := by
  have e := State.evolves_endRecords h ho true (List.nodup_singleton r) fun i hi => by
    rw [List.mem_singleton] at hi; subst hi; exact Record.live_of_holds hr
  exact e.trans ((State.still_report _ _).evolves e.dispatch)

theorem State.links_failByFrame (o : ExchOutcome) (k : ErrorKind) (n : LineNo) (f : Frame) (r : RecordIdx)
    (s : State) : s.SameLinks (s.failByFrame o k n f r) :=
  (s.links_endRecords o true [r]).trans (State.still_report _ _).links

theorem State.evolves_acceptPart {s : State} (h : s.DispatchLawful) (n : LineNo) (f : Frame) {r : RecordIdx}
    (hr : (s.record r).holds = true) (hs : (s.record r).segments < 4)
    (hl : (s.record r).reply.length + f.payload.length ≤ Config.maxReply) : s.Evolves (s.acceptPart n f r) := by
  have e := State.evolves_takeFrame h
    (.part f.payload ((s.withdraw r).after (s.withdraw r).params.segmentInterval) hr hs hl) rfl
  exact e.trans ((State.still_joined _ n _).evolves e.dispatch)

theorem State.links_acceptPart (n : LineNo) (f : Frame) (r : RecordIdx) (s : State) :
    s.SameLinks (s.acceptPart n f r) :=
  ((s.links_withdraw r).trans (State.links_setRecord _ _ _)).trans (State.still_joined _ n _).links

theorem State.evolves_defer {s : State} (h : s.DispatchLawful) (n : LineNo) (f : Frame) {r : RecordIdx}
    (hr : (s.record r).holds = true) (hl : (s.record r).holdoffs < s.params.holdoffLimit) :
    s.Evolves (s.defer n f r) := by
  have e := State.evolves_takeFrame h
    (.heldOff ((s.withdraw r).after ((s.withdraw r).holdoffLength f)) hr hl) rfl
  exact e.trans ((State.still_joined _ n _).evolves e.dispatch)

theorem State.links_defer (n : LineNo) (f : Frame) (r : RecordIdx) (s : State) : s.SameLinks (s.defer n f r) :=
  ((s.links_withdraw r).trans (State.links_setRecord _ _ _)).trans (State.still_joined _ n _).links

/-- The last segment is taken and the record is DONE in one event (R125). -/
theorem State.evolves_acceptLast {s : State} (h : s.DispatchLawful) (f : Frame) {r : RecordIdx}
    (hr : (s.record r).holds = true) (hs : (s.record r).segments < 4)
    (hl : (s.record r).reply.length + f.payload.length ≤ Config.maxReply) : s.Evolves (s.acceptLast f r) := by
  unfold State.acceptLast
  dsimp only
  generalize hx : ({ s.record r with
    reply := (s.record r).reply ++ f.payload, segments := (s.record r).segments + 1
    status := some f.kindByte } : Record) = x
  have hstate : x.state = (s.record r).state := by subst hx; rfl
  have hm : Record.Moves s.params.holdoffLimit (s.record r) (x.ended .done) := by
    subst hx; exact .single (.completed f.payload f.kindByte hr hs hl)
  have hd : (s.setRecord r x).DispatchLawful := by
    refine h.congr (fun _ => rfl) fun i => ?_
    rw [State.record_setRecord]
    split
    · subst i; subst hx; exact ⟨.rfl, fun _ => ⟨rfl, rfl, rfl⟩⟩
    · exact Record.SameInQueue.refl _
  refine ⟨(s.quiet_setRecord r x).rest.trans (State.rest_endRecords _ _ _ _), fun i => ?_,
    State.dispatch_endRecords hd _ _ _, fun hc => ?_⟩
  · rw [State.record_endRecords, State.record_setRecord]
    simp only [List.mem_singleton]
    split
    · subst i; exact hm
    · exact .refl
  · refine State.completion_endRecords (s := s.setRecord r x) (hc.congr rfl fun i => ?_) _ _ (List.nodup_singleton r)
      fun i hi => ?_
    · rw [State.record_setRecord]
      split
      · subst i; rw [hstate]
      · rfl
    · rw [List.mem_singleton] at hi
      subst hi
      rw [State.record_setRecord_self, hstate]
      exact RecState.not_terminal_of_live (Record.live_of_holds hr)

theorem State.links_acceptLast (f : Frame) (r : RecordIdx) (s : State) : s.SameLinks (s.acceptLast f r) :=
  (s.links_setRecord r _).trans (State.links_endRecords _ _ _ _)

theorem State.evolves_nextSegment {s : State} (h : s.DispatchLawful) (n : LineNo) (f : Frame) {r : RecordIdx}
    (hr : (s.record r).holds = true) (hs : (s.record r).segments < 4) : s.Evolves (s.nextSegment n f r) := by
  unfold State.nextSegment
  split
  · exact State.evolves_failByFrame h (by decide) _ n f hr
  · split
    · exact State.evolves_failByFrame h (by decide) _ n f hr
    · split
      · exact State.evolves_acceptLast h f hr hs (Nat.le_of_not_lt ‹_›)
      · exact State.evolves_acceptPart h n f hr hs (Nat.le_of_not_lt ‹_›)

theorem State.links_nextSegment (n : LineNo) (f : Frame) (r : RecordIdx) (s : State) :
    s.SameLinks (s.nextSegment n f r) := by
  unfold State.nextSegment
  split
  · exact s.links_failByFrame _ _ n f r
  · split
    · exact s.links_failByFrame _ _ n f r
    · split
      · exact s.links_acceptLast f r
      · exact s.links_acceptPart n f r

theorem State.evolves_deliverReply {s : State} (h : s.DispatchLawful) (n : LineNo) (f : Frame) {r : RecordIdx}
    (hr : (s.record r).holds = true) : s.Evolves (s.deliverReply n f r) := by
  unfold State.deliverReply
  split
  · exact State.evolves_failByFrame h (by decide) _ n f hr
  · split
    · exact (s.still_report _).evolves h
    · split
      case isTrue he => exact State.evolves_nextSegment h n f hr (he ▸ f.segment.isLt)
      case isFalse => exact State.evolves_failByFrame h (by decide) _ n f hr

theorem State.links_deliverReply (n : LineNo) (f : Frame) (r : RecordIdx) (s : State) :
    s.SameLinks (s.deliverReply n f r) := by
  unfold State.deliverReply
  split
  · exact s.links_failByFrame _ _ n f r
  · split
    · exact (s.still_report _).links
    · split
      · exact s.links_nextSegment n f r
      · exact s.links_failByFrame _ _ n f r

theorem State.evolves_deliverHoldoff {s : State} (h : s.DispatchLawful) (n : LineNo) (f : Frame) {r : RecordIdx}
    (hr : (s.record r).holds = true) : s.Evolves (s.deliverHoldoff n f r) := by
  unfold State.deliverHoldoff State.countHoldoff
  split
  · exact State.evolves_failByFrame h (by decide) _ n f hr
  · split
    · exact (s.still_report _).evolves h
    · split
      · exact State.evolves_defer h n f hr ‹_›
      · refine State.evolves_endRecords h (by decide) _ (List.nodup_singleton r) fun i hi => ?_
        rw [List.mem_singleton] at hi
        subst hi
        exact Record.live_of_holds hr

theorem State.links_deliverHoldoff (n : LineNo) (f : Frame) (r : RecordIdx) (s : State) :
    s.SameLinks (s.deliverHoldoff n f r) := by
  unfold State.deliverHoldoff State.countHoldoff
  split
  · exact s.links_failByFrame _ _ n f r
  · split
    · exact (s.still_report _).links
    · split
      · exact s.links_defer n f r
      · exact s.links_endRecords _ _ _

/-- A REPLY or a HOLDOFF is looked up and delivered (R76, R121, R122). -/
theorem State.keeps_matchFrame {s : State} (h : s.Lawful) {deliver : RecordIdx → State → State} (n : LineNo) (f : Frame)
    (he : ∀ (u : State) r, u.DispatchLawful → (u.record r).holds = true → u.Evolves (deliver r u))
    (hk : ∀ (u : State) r, u.SameLinks (deliver r u)) : s.Keeps (s.matchFrame deliver n f) := by
  unfold State.matchFrame
  dsimp only
  split
  · exact State.keeps_report h _
  · have k1 := (s.still_signOfLife (stationAt n f.drop)).keeps h
    refine k1.trans ?_
    have h1 := k1.lawful
    split
    case h_1 r hr =>
      have k2 := (he _ r h1.dispatch (State.holder_some hr).1).keeps_of_links h1 (hk _ r)
      exact k2.trans (State.keeps_settle k2.lawful n)
    case h_2 => split <;> exact State.keeps_report h1 _

theorem keeps_takeReply {s : State} (h : s.Lawful) (n : LineNo) (f : UpFields) : s.Keeps (takeReply n f s) :=
  State.keeps_matchFrame h n _ (fun _ _ hd hr => State.evolves_deliverReply hd n _ hr)
    (fun u r => u.links_deliverReply n _ r)

theorem keeps_takeHoldoff {s : State} (h : s.Lawful) (n : LineNo) (f : UpFields) : s.Keeps (takeHoldoff n f s) :=
  State.keeps_matchFrame h n _ (fun _ _ hd hr => State.evolves_deliverHoldoff hd n _ hr)
    (fun u r => u.links_deliverHoldoff n _ r)

end Sys2Proof.Machine
end

section
/-!
The events of stations, lines, resets and the clock keep the laws and the counts.
-/

namespace Sys2Proof.Machine

/-! ### Stations (R47, R54, R60, R61) -/

/-- After a sweep none of the records that it names is live. -/
theorem State.not_live_after_sweep (s : State) (o : ExchOutcome) (f : Bool) (p : Record → Bool) (r : RecordIdx)
    (h : ((s.endRecords o f (s.liveWhere p)).record r).state.live = true) :
    (s.record r).state.live = true ∧ p (s.record r) = false ∧
      (s.endRecords o f (s.liveWhere p)).record r = s.record r := by
  rw [State.record_endRecords] at h ⊢
  split at h
  · have := Record.ended_terminal o (s.record r)
    rw [RecState.not_terminal_of_live h] at this
    cases this
  · rename_i hm
    rw [if_neg hm]
    refine ⟨h, ?_, rfl⟩
    by_contra hp
    exact hm ((s.mem_liveWhere p r).mpr ⟨h, by simpa using hp⟩)

/-- A station's live records end, and it is no longer PRESENT (R54, R60). -/
theorem State.keeps_sweepStation {s : State} (h : s.Lawful) {o : ExchOutcome} (ho : o ≠ .done) (f : Bool)
    (st : StationIdx) {e : Entry} (he : e.state ≠ .present) :
    s.Keeps ((s.endRecords o f (s.liveWhere (fun x => x.station == st))).setEntry st e) := by
  have ev := State.evolves_sweep h.dispatch ho f (fun x => x.station == st)
  have hl := h.live.keep (s.links_endRecords o f _) ev.live_record
  refine (ev.trans ((State.sameTable_setEntry _ st e).evolves ev.dispatch)).keeps h (hl.clear_entry st (fun r hr => ?_) he)
  obtain ⟨-, hp, heq⟩ := s.not_live_after_sweep o f _ r hr
  rw [heq]
  simpa using hp

theorem State.keeps_loseStation {s : State} (h : s.Lawful) (st : StationIdx) : s.Keeps (s.loseStation st) := by
  unfold State.loseStation
  refine State.Keeps.settle (State.Keeps.probeSweep (State.keeps_sweepStation h ?_ true st ?_) _) _
  · decide
  · simp

theorem State.keeps_disableStation {s : State} (h : s.Lawful) (st : StationIdx) : s.Keeps (s.disableStation st) := by
  unfold State.disableStation
  refine State.Keeps.settle (State.Keeps.still (State.keeps_sweepStation h ?_ true st ?_)
    (State.still_offerAll _ _ _)) _
  · decide
  · simp [Entry.disabledOf]

/-- A DISABLED station is not PRESENT, so no record of it is live when it is enabled (R61). -/
theorem State.keeps_enableStation {s : State} (h : s.Lawful) {st : StationIdx} (hs : (s.entry st).state = .disabled) :
    s.Keeps (s.enableStation st) := by
  unfold State.enableStation
  have ev := (s.sameTable_setEntry st ((s.entry st).enabled.dueAt s.tick)).evolves h.dispatch
  have k := ev.keeps h (h.live.clear_entry st (fun r hr he => ?_) (by simp [Entry.enabled, Entry.dueAt]))
  · exact (k.probeSweep _).choose _
  · have := h.live.station r hr
    rw [he, hs] at this
    cases this

theorem State.still_awaitNew (n : LineNo) (d : DropNo) (s : State) : s.Still (s.awaitNew n d) := by
  unfold State.awaitNew
  split
  · exact State.Still.trans (State.still_setEntry s _) (State.still_offer n _ _)
  · exact State.Still.refl s

/-- A station of an UP line is admitted (R47). -/
theorem State.keeps_makePresent {s : State} (h : s.Lawful) {n : LineNo} (hn : (s.line n).link = .up) (f : UpFields) :
    s.Keeps (s.makePresent n f) := by
  unfold State.makePresent
  have ev := (s.sameTable_setEntry (stationAt n f.drop) ((s.entry (stationAt n f.drop)).admitted f)).evolves h.dispatch
  have k := ev.keeps h (by
    refine ⟨fun r hr => ?_, fun st hp => ?_, h.live.control⟩
    · show ((s.setEntry _ _).entry (s.record r).station).state = _
      rw [State.entry_setEntry]
      split
      · rfl
      · exact h.live.station r hr
    · rw [State.entry_setEntry] at hp
      split at hp
      · subst st; simpa using hn
      · exact h.live.link st hp)
  exact (k.still (State.still_awaitNew n f.drop _)).settle n

theorem keeps_takeProbeAnswer {s : State} (h : s.Lawful) {n : LineNo} (hn : (s.line n).link = .up) (f : UpFields) :
    s.Keeps (takeProbeAnswer n f s) := by
  unfold takeProbeAnswer
  dsimp only
  split
  · exact State.keeps_report h _
  · split
    · exact ((s.still_signOfLife _).trans (State.still_report _ _)).keeps h
    · exact State.keeps_report h _
    · exact State.keeps_makePresent h hn f
    · exact State.keeps_makePresent h hn f

theorem keeps_takeAttention {s : State} (h : s.Lawful) (n : LineNo) (f : UpFields) : s.Keeps (takeAttention n f s) := by
  unfold takeAttention
  dsimp only
  split
  · exact State.keeps_report h _
  · have k := (s.still_signOfLife (stationAt n f.drop)).keeps h
    refine k.trans ?_
    unfold State.placeCause
    dsimp only
    split
    · exact (State.still_setEntry _ _).keeps k.lawful
    · exact (State.still_setEntry _ _).keeps k.lawful
    · exact State.Keeps.choose (((State.still_report _ _).trans (State.still_offer n _ _)).keeps k.lawful) n

theorem State.still_markAck (st : StationIdx) (s : State) : s.Still (s.markAck st) := s.still_setEntry st rfl

theorem keeps_takeQuiesceAck {s : State} (h : s.Lawful) (n : LineNo) (f : UpFields) :
    s.Keeps (takeQuiesceAck n f s) := by
  unfold takeQuiesceAck
  dsimp only
  have k := s.still_signOfLife (stationAt n f.drop)
  split
  · exact State.keeps_report h _
  · split
    · exact (k.trans (State.still_report _ _)).keeps h
    · exact (k.trans (State.still_report _ _)).keeps h
    · exact ((k.trans (State.still_markAck _ _)).trans (State.still_testAcks _ _)).keeps h
    · exact (k.trans (State.still_markAck _ _)).keeps h

/-- A good frame is taken on an UP line (R109). -/
theorem keeps_takeFrame {s : State} (h : s.Lawful) (k : FrameKind) {n : LineNo} (hn : (s.line n).link = .up)
    (f : UpFields) : s.Keeps (takeFrame k n f s) := by
  cases k with
  | reply => exact keeps_takeReply h n f
  | holdoff => exact keeps_takeHoldoff h n f
  | probeAnswer => exact keeps_takeProbeAnswer h hn f
  | attention => exact keeps_takeAttention h n f
  | quiesceAck => exact keeps_takeQuiesceAck h n f
  | request | abandon | probe | quiesce | attnRefused => exact State.Keeps.refl h

/-! ### Links and line resets (R57, R58, R97, R112 to R114) -/

theorem Entry.dueIfProbed_state (t : Tick) (e : Entry) : (e.dueIfProbed t).state = e.state := by
  unfold Entry.dueIfProbed
  split <;> rfl

theorem State.keeps_linkUp {s : State} (h : s.Lawful) (n : LineNo) : s.Keeps (s.linkUp n) := by
  unfold State.linkUp
  have ev := (s.sameTable_setLine n (l := { s.line n with
      link := .up, rx := s.freshRx, phase := .none, quiet := 0, spaceRun := 0 }) rfl).evolves h.dispatch
  have k := ev.keeps h (by
    refine ⟨h.live.station, fun st hp => ?_, fun m hm => ?_⟩
    · have := h.live.link st hp
      rw [State.line_setLine]
      split
      · rfl
      · exact this
    · rw [State.line_setLine] at hm ⊢
      split at hm
      · exact absurd rfl hm
      · rw [if_neg ‹_›]; exact h.live.control m hm)
  exact ((k.still (State.still_mapLineEntries _ n (Entry.dueIfProbed_state _))).probeSweep n).choose n

/-- What happens to a line whose live records all end: the line itself is changed, before or after, and then its
entries, of which none stays PRESENT. -/
theorem State.keeps_clearLine {s t : State} (h : s.Lawful) (n : LineNo) (ev : s.Evolves t)
    (hr : ∀ r, (t.record r).state.live = true → (s.record r).line ≠ n)
    (hs : ∀ st, lineOf st ≠ n → (t.entry st).state = (s.entry st).state)
    (hl : ∀ m, m ≠ n → (t.line m).link = (s.line m).link ∧ (t.line m).controlQ = (s.line m).controlQ)
    (hc : (t.line n).link ≠ .up → (t.line n).controlQ = []) {f : Entry → Entry} (hf : ∀ e, (f e).state ≠ .present) :
    s.Keeps (t.mapLineEntries n f) := by
  refine (ev.trans ((t.sameTable_mapLineEntries n f).evolves ev.dispatch)).keeps h ?_
  refine h.live.clear_line n (fun r hlive => ?_) (fun st hst => ?_) (fun st hst => ?_) (fun m hm => ?_) ?_
  · rw [State.record_mapLineEntries] at hlive ⊢
    exact ⟨(ev.live_record r hlive).1, (ev.live_record r hlive).2, hr r hlive⟩
  · rw [State.entry_mapLineEntries, if_neg hst, hs st hst]
  · rw [State.entry_mapLineEntries, if_pos hst]; exact hf _
  · rw [State.line_mapLineEntries]; exact hl m hm
  · rw [State.line_mapLineEntries]; exact hc

/-- The loss of a link, before the line service's tests: the line is unlinked, its live records end, and none of its
entries stays PRESENT (R57, R58, R113, R114). -/
theorem State.keeps_unlink {s : State} (h : s.Lawful) (n : LineNo) (k : Link) (f : Bool) {g : Entry → Entry}
    (hg : ∀ e, (g e).state ≠ .present) :
    s.Keeps ((((s.setLine n ((s.line n).unlinked k)).endRecords .lineDown f
      ((s.setLine n ((s.line n).unlinked k)).liveOnLine n))).mapLineEntries n g) := by
  have e1 := (s.sameTable_setLine n (l := (s.line n).unlinked k) rfl).evolves h.dispatch
  have e2 := State.evolves_sweep e1.dispatch (o := .lineDown) (by decide) f (fun x => x.line == n)
  refine State.keeps_clearLine h n (e1.trans e2) (fun r hr => ?_) (fun st _ => ?_) (fun m hm => ?_) ?_ hg
  · obtain ⟨-, hp, -⟩ := State.not_live_after_sweep _ _ _ _ r hr
    simpa using hp
  · exact (State.links_endRecords _ _ _ _).stations st
  · rw [State.line_endRecords, State.line_setLine_ne _ hm]; exact ⟨rfl, rfl⟩
  · rw [State.line_endRecords, State.line_setLine_self]; exact fun _ => rfl

theorem Entry.lostByDown_state (t : Tick) (e : Entry) : (e.lostByDown t).state ≠ .present := by
  unfold Entry.lostByDown
  split
  · simp
  · exact ‹_›

theorem Entry.byOff_state (t : Tick) (e : Entry) : (e.byOff t).state ≠ .present := by
  unfold Entry.byOff
  dsimp only
  split
  · simp
  · rename_i hn
    exact fun hp => hn (.inl hp)

theorem Entry.reset_state (t : Tick) (e : Entry) : (e.reset t).state ≠ .present := by
  unfold Entry.reset
  dsimp only
  split
  · rename_i h; rw [h]; simp
  · simp

theorem State.keeps_linkDown {s : State} (h : s.Lawful) (n : LineNo) : s.Keeps (s.linkDown n) := by
  unfold State.linkDown
  exact State.Keeps.settle (State.keeps_unlink h n .down true (Entry.lostByDown_state _)) n

theorem State.keeps_linkOff {s : State} (h : s.Lawful) (n : LineNo) : s.Keeps (s.linkOff n) := by
  unfold State.linkOff
  exact State.Keeps.settle (State.keeps_unlink h n .off false (Entry.byOff_state _)) n

/-- An OFF line has no PRESENT station and an empty control queue, and a DOWN one may have none. -/
theorem State.keeps_linkOn {s : State} (h : s.Lawful) {n : LineNo} (hn : (s.line n).link = .off) :
    s.Keeps (s.linkOn n) := by
  unfold State.linkOn
  have ev := (s.sameTable_setLine n (l := { s.line n with link := .down, markRun := 0, spaceRun := 0 }) rfl).evolves
    h.dispatch
  refine ev.keeps h ⟨h.live.station, fun st hp => ?_, fun m hm => ?_⟩
  · have hu := h.live.link st hp
    rw [State.line_setLine, if_neg]
    · exact hu
    · rintro rfl
      rw [hn] at hu
      cases hu
  · rw [State.line_setLine] at hm ⊢
    split
    · exact h.live.control n (by rw [hn]; simp)
    · rw [if_neg ‹_›] at hm; exact h.live.control m hm

theorem State.keeps_lineEnabled {s : State} (h : s.Lawful) (n : LineNo) (on : Bool) :
    s.Keeps (s.lineEnabled n on) := by
  unfold State.lineEnabled
  split
  · exact State.keeps_ite _ h fun hn => State.keeps_linkOn h hn
  · split
    · exact State.Keeps.refl h
    · exact State.keeps_linkOff h n

@[simp] theorem Line.discardFrame_dispatchQ (l : Line) : l.discardFrame.dispatchQ = l.dispatchQ := by
  unfold Line.discardFrame
  split <;> rfl

/-- A void acknowledgement is no part of the laws (R158). -/
theorem State.keeps_voidAck {s : State} (h : s.Lawful) (n : LineNo) : s.Keeps { s with port := s.port.voidAck n } := by
  unfold Port.voidAck
  split
  · exact State.keeps_port h _ rfl rfl rfl le_rfl rfl rfl
  · exact State.keeps_port h _ rfl rfl rfl le_rfl rfl rfl

theorem State.keeps_lineResetActs {s : State} (h : s.Lawful) (n : LineNo) : s.Keeps (s.lineResetActs n) := by
  unfold State.lineResetActs
  dsimp only
  have e1 := State.evolves_sweep h.dispatch (o := .lineReset) (by decide) false (fun x => x.line == n)
  have e2 := (State.sameTable_setLine _ n
    (l := ((s.endRecords .lineReset false (s.liveWhere (fun x => x.line == n))).line n).resetOwn)
    (Line.discardFrame_dispatchQ _)).evolves e1.dispatch
  have k := State.keeps_clearLine h n (e1.trans e2) (fun r hr => ?_) (fun st _ => ?_) (fun m hm => ?_) ?_
    (Entry.reset_state ((s.endRecords .lineReset false (s.liveWhere (fun x => x.line == n))).tick))
  · exact ((k.trans (State.keeps_voidAck k.lawful n)).probeSweep n).choose n
  · obtain ⟨-, hp, -⟩ := State.not_live_after_sweep _ _ _ _ r hr
    simpa using hp
  · exact (State.links_endRecords _ _ _ _).stations st
  · rw [State.line_setLine_ne _ hm, State.line_endRecords]; exact ⟨rfl, rfl⟩
  · rw [State.line_setLine_self]; exact fun _ => rfl

theorem State.keeps_lineResetTaken {s : State} (h : s.Lawful) (n : LineNo) : s.Keeps (s.lineResetTaken n) := by
  unfold State.lineResetTaken
  split
  · exact State.keeps_lineResetActs h n
  · exact (s.still_setLine n).keeps h

/-! ### The soft reset (R195) -/

/-- A change of lines that the laws do not speak of. -/
theorem State.still_mapLines (s : State) {f : LineNo → Line → Line} (hq : ∀ n l, (f n l).dispatchQ = l.dispatchQ)
    (hl : ∀ n l, (f n l).link = l.link) (hc : ∀ n l, (f n l).controlQ = l.controlQ) : s.Still (s.mapLines f) := by
  refine ⟨⟨by simp, fun n => by simp [hq], ⟨⟨?_, ?_, ?_, ?_, ?_, ?_, ?_, ?_, ?_, ?_⟩, ?_, ?_, ?_⟩⟩, fun st => by simp,
    fun n => by simp [hl], fun n _ h => by simpa [hc] using h⟩
  all_goals simp

theorem State.keeps_resetting {s : State} (h : s.Lawful) (b : Bool) : s.Keeps { s with resetting := b } :=
  State.keeps_of_same h rfl rfl rfl rfl rfl rfl rfl fun c => c.congr rfl rfl

theorem State.keeps_endPeriod {s : State} (h : s.Lawful) : s.Keeps s.endPeriod := by
  unfold State.endPeriod
  have k := State.keeps_resetting h false
  have k1 := k.still (State.still_mapLines { s with resetting := false }
    (f := fun _ l => if l.rx = .discarding then { l with quiet := 0 } else l)
    (fun _ _ => by split <;> rfl) (fun _ _ => by split <;> rfl) (fun _ _ => by split <;> rfl))
  exact k1.trans ((State.evolves_chooseAll k1.lawful.dispatch).keeps_of_links k1.lawful (State.links_chooseAll _))

theorem State.keeps_beginPeriod {s : State} (h : s.Lawful) : s.Keeps s.beginPeriod := by
  unfold State.beginPeriod
  split
  · exact State.keeps_endPeriod h
  · exact State.keeps_resetting h true

theorem Record.softReset_free (x : Record) : x.softReset.state = .free := by
  unfold Record.softReset
  split
  · exact ‹_›
  · rfl

/-- A soft reset leaves a record as it was, if it was FREE, and blank otherwise (R23). -/
theorem Record.softReset_cases (x : Record) : x.softReset = x ∨ ∃ g, x.softReset = Record.blank g := by
  unfold Record.softReset
  split
  · exact .inl rfl
  · exact .inr ⟨_, rfl⟩

/-- A soft reset before the PROBEs and the in-progress period: what it does to each part of the state. -/
def State.softened (s : State) : State := s.softExchanges.softLines.softEntries

theorem State.softExchanges_records (s : State) : s.softExchanges.records = (s.mapRecords Record.softReset).records := by
  simp only [State.softExchanges]

theorem State.softExchanges_stations (s : State) : s.softExchanges.stations = s.stations := by
  simp only [State.softExchanges, State.mapRecords_stations]

theorem State.softExchanges_lines (s : State) : s.softExchanges.lines = s.lines := by
  simp only [State.softExchanges, State.mapRecords_lines]

theorem State.record_softened (s : State) (r : RecordIdx) : s.softened.record r = (s.record r).softReset := by
  rw [State.softened, State.softEntries, State.record_mapEntries, State.softLines, State.record_mapLines,
    State.record_congr s.softExchanges_records, State.record_mapRecords]

theorem State.line_softened (s : State) (n : LineNo) : s.softened.line n = (s.line n).softReset := by
  rw [State.softened, State.softEntries, State.line_mapEntries, State.softLines, State.line_mapLines,
    State.line_congr s.softExchanges_lines]

theorem State.entry_softened (s : State) (st : StationIdx) : s.softened.entry st = (s.entry st).reset s.tick := by
  rw [State.softened, State.softEntries, State.entry_mapEntries, State.softLines, State.entry_mapLines,
    State.entry_congr s.softExchanges_stations, State.mapLines_tick]
  simp only [State.softExchanges, State.mapRecords_tick]

/-- A soft reset changes nothing but records, entries, lines and the Completion Unit, which it empties. -/
theorem State.softened_rest (s : State) :
    s.softened = { s with
      records := s.softened.records, stations := s.softened.stations, lines := s.softened.lines
      completionQ := [], signalC := false, idleTimer := none } := by
  simp only [State.softened, State.softEntries, State.softLines, State.softExchanges, State.mapEntries, State.mapLines,
    State.mapRecords]

/-- A state whose records are all FREE, its queues of records empty and no station PRESENT, is lawful. -/
theorem State.tableLawful_of_free {s : State} (hshape : s.RecordsShaped) (hfree : ∀ r, (s.record r).state = .free)
    (hq : ∀ n, (s.line n).dispatchQ = []) (hc : s.completionQ = []) (hs : ∀ st, (s.entry st).state ≠ .present)
    (hctl : ∀ n, (s.line n).link ≠ .up → (s.line n).controlQ = []) : s.TableLawful := by
  refine ⟨hshape, ⟨fun n k hk => ?_, fun n => ?_, fun r hr => ?_, fun n k hk => ?_⟩, ⟨?_, fun r => ?_⟩,
    ⟨fun r hl => ?_, fun st hp => absurd hp (hs st), hctl⟩⟩
  · rw [hq] at hk; cases hk
  · rw [hq]; exact List.nodup_nil
  · rw [hfree] at hr; cases hr
  · rw [hq] at hk; cases hk
  · rw [hc]; exact List.nodup_nil
  · rw [hc, hfree]; exact ⟨nofun, nofun⟩
  · rw [hfree] at hl; cases hl

theorem State.keeps_softened {s : State} (h : s.Lawful) (hp : s.port.reserved = none) (hn : s.port.named = none) :
    s.Keeps s.softened := by
  have hrec := s.record_softened
  have hline := s.line_softened
  have hent := s.entry_softened
  have hrest := s.softened_rest
  generalize s.softened = t at *
  have hport : t.port = s.port := by rw [hrest]
  have hpins : t.pins = s.pins := by rw [hrest]
  have hfree : ∀ r, (t.record r).state = .free := fun r => by rw [hrec]; exact Record.softReset_free _
  have ht : t.TableLawful := State.tableLawful_of_free (fun r => ?_) hfree (fun n => by rw [hline]; rfl) (by rw [hrest])
    (fun st => by rw [hent]; exact Entry.reset_state _ _) (fun n _ => by rw [hline]; rfl)
  · refine ⟨⟨ht.lawful (fun r => by rw [hfree]; simp) (by rw [hport]; exact hp) (by rw [hport]; exact hn) ?_
      (by rw [hport]; exact h.port.counted), fun c => ⟨by rw [hrest]; exact c.params, fun r => ?_⟩⟩,
      fun _ => by rw [hport]; exact hp⟩
    · rw [hport, hpins, State.operating_congr (s := s) (by rw [hrest])]; exact h.port.opened
    · rw [hrec]
      rcases (s.record r).softReset_cases with he | ⟨g, he⟩ <;> rw [he]
      · exact c.records r
      · exact Record.counted_blank g
  · rw [hrec]
    rcases (s.record r).softReset_cases with he | ⟨g, he⟩ <;> rw [he]
    · exact h.shaped r
    · exact Record.shaped_blank g

theorem State.still_probeAll (s : State) : s.Still s.probeAll :=
  State.still_foldl _ (fun s n => s.still_probeSweep n) _ s

theorem keeps_takeSoftReset {s : State} (h : s.Lawful) (hp : s.port.reserved = none) (hn : s.port.named = none) :
    s.Keeps (takeSoftReset s) := by
  have k := (State.keeps_softened h hp hn).still (State.still_probeAll _)
  exact k.trans (State.keeps_beginPeriod k.lawful)

/-! ### The ends of frames (R12, R93, R95) -/

theorem State.keeps_afterIdle {s : State} (h : s.Lawful) (n : LineNo) : s.Keeps (s.afterIdle n) := by
  unfold State.afterIdle
  dsimp only
  have k := State.keeps_ite ((s.line n).resetWaiting = true) h fun _ => State.keeps_lineResetActs h n
  generalize (if (s.line n).resetWaiting = true then s.lineResetActs n else s) = t at k ⊢
  refine k.trans ?_
  split
  · exact State.keeps_ite _ k.lawful fun _ => State.keeps_endPeriod k.lawful
  · exact State.keeps_choose k.lawful n

theorem State.keeps_idleTx {s : State} (h : s.Lawful) (n : LineNo) :
    s.Keeps ((s.setLine n { s.line n with tx := .idle }).afterIdle n) := by
  have k := (s.still_setLine n (l := { s.line n with tx := .idle }) rfl rfl (fun _ h => h)).keeps h
  exact k.trans (State.keeps_afterIdle k.lawful n)

theorem State.keeps_transmitEnd {s : State} (h : s.Lawful) (n : LineNo) : s.Keeps (s.transmitEnd n) := by
  unfold State.transmitEnd
  split
  · exact State.Keeps.refl h
  · rename_i k _ _
    have k := (State.evolves_presentHandle h.dispatch k).keeps_of_links h (State.links_presentHandle k s)
    exact k.trans (State.keeps_idleTx k.lawful n)
  · exact State.Keeps.refl h

theorem State.keeps_stoppingEnd {s : State} (h : s.Lawful) (n : LineNo) : s.Keeps (s.stoppingEnd n) := by
  unfold State.stoppingEnd
  split
  · exact State.Keeps.refl h
  · exact State.Keeps.refl h
  · exact State.keeps_idleTx h n

theorem State.keeps_txEnd {s : State} (h : s.Lawful) (n : LineNo) : s.Keeps (s.txEnd n) := by
  unfold State.txEnd
  split
  · exact State.keeps_afterIdle h n
  · exact State.keeps_transmitEnd h n
  · exact State.keeps_stoppingEnd h n

/-! ### The deadlines of records (R131 to R135) -/

theorem State.still_countFailure (st : StationIdx) (s : State) : s.Still (s.countFailure st) := s.still_setEntry st rfl

theorem State.keeps_timeOut {s : State} (h : s.Lawful) {r : RecordIdx} (hr : (s.record r).state.live = true) :
    s.Keeps (s.timeOut r) := by
  refine (State.evolves_endRecords h.dispatch (o := .timeout) (by decide) true (List.nodup_singleton r)
    fun i hi => ?_).keeps_of_links h (s.links_endRecords _ _ _)
  rw [List.mem_singleton] at hi
  subst hi
  exact hr

theorem State.keeps_replyExpiry {s : State} (h : s.Lawful) {r : RecordIdx} (hr : (s.record r).state = .sent) :
    s.Keeps (s.replyExpiry r) := by
  unfold State.replyExpiry
  dsimp only
  have k := (s.still_countFailure (s.record r).station).keeps h
  refine k.trans ?_
  split
  · exact State.keeps_loseStation k.lawful _
  · split
    · exact State.Keeps.settle ((State.evolves_retry k.lawful.dispatch hr ‹_›).keeps_of_links k.lawful
        (State.links_retry r _)) _
    · exact State.Keeps.settle (State.keeps_timeOut k.lawful (by
        show (s.record r).state.live = true
        rw [hr]; rfl)) _

theorem State.keeps_segmentExpiry {s : State} (h : s.Lawful) {r : RecordIdx} (hr : (s.record r).state = .partly) :
    s.Keeps (s.segmentExpiry r) := by
  unfold State.segmentExpiry
  dsimp only
  have k := (s.still_countFailure (s.record r).station).keeps h
  refine k.trans ?_
  split
  · exact State.keeps_loseStation k.lawful _
  · exact State.Keeps.settle (State.keeps_timeOut k.lawful (by
      show (s.record r).state.live = true
      rw [hr]; rfl)) _

theorem State.keeps_holdoffExpiry {s : State} (h : s.Lawful) {r : RecordIdx} (hr : (s.record r).state = .deferred)
    (n : LineNo) : s.Keeps ((s.queueAtHead r).settle n) :=
  ((State.evolves_queueAtHead h.dispatch hr).keeps_of_links h (s.links_queueAtHead r)).settle n

/-! ### The line service (R161, R166, R169) -/

theorem State.keeps_quiesceLine {s : State} (h : s.Lawful) (n : LineNo) : s.Keeps (s.quiesceLine n) :=
  State.Keeps.settle ((s.still_setLine n (l := { s.line n with service := .draining, quiesceOutcome := none })
    rfl rfl (fun _ h => h)).keeps h) n

theorem State.keeps_resumeLine {s : State} (h : s.Lawful) (n : LineNo) : s.Keeps (s.resumeLine n) :=
  State.Keeps.choose (State.Keeps.probeSweep ((s.still_setLine n
    (l := { s.line n with service := .opened, quiesceDeadline := none }) rfl rfl (fun _ h => h)).keeps h) n) n

theorem State.keeps_quiesceExpiry {s : State} (h : s.Lawful) (n : LineNo) : s.Keeps (s.quiesceExpiry n) := by
  unfold State.quiesceExpiry
  split
  · exact State.Keeps.refl h
  · exact State.keeps_ite _ h fun _ => (s.still_setLine n).keeps h

/-! ### Characters and the clock (R100, R104 to R108) -/

/-- Of the pins the laws look at CSn alone. -/
theorem State.keeps_rxd {s : State} (h : s.Lawful) (v : Vector Bool 8) :
    s.Keeps { s with pins := { s.pins with rxdMark := v } } :=
  State.keeps_of_same h rfl rfl rfl rfl rfl rfl rfl fun c => c.congr rfl rfl

theorem State.keeps_charTaken {s : State} (h : s.Lawful) (n : LineNo) (mark : Bool) (c : RxCond) :
    s.Keeps (s.charTaken n mark c) := by
  have hgiven : s.Keeps (s.charGiven n mark c) := by
    unfold State.charGiven
    exact State.Keeps.trans ((s.still_setLine n).keeps h) (State.keeps_rxd ((s.still_setLine n).keeps h).lawful _)
  unfold State.charTaken
  split
  · exact (s.still_setLine n).keeps h
  all_goals exact hgiven

theorem State.line_charTaken_link (s : State) (n m : LineNo) (mark : Bool) (c : RxCond) :
    ((s.charTaken n mark c).line m).link = (s.line m).link := by
  have hset : ∀ l : Line, l.link = (s.line n).link → ((s.setLine n l).line m).link = (s.line m).link := by
    intro l hl
    rw [State.line_setLine]
    split
    · subst m; exact hl
    · rfl
  unfold State.charTaken
  split <;> exact hset _ rfl

theorem State.keeps_goodCharacter {s : State} (h : s.Lawful) {n : LineNo} (hn : (s.line n).link = .up) (b : Byte) :
    s.Keeps (s.goodCharacter n b) := by
  unfold State.goodCharacter
  split
  · exact State.keeps_charTaken h n _ _
  · unfold State.assemble
    split
    · exact (State.keeps_charTaken h n _ _).still (State.still_report _ _)
    · split
      · unfold State.frameArrived
        dsimp only
        have k := State.keeps_charTaken h n true .hunting
        refine k.trans ?_
        split
        · split
          · exact keeps_takeFrame k.lawful _ (by rw [State.line_charTaken_link]; exact hn) _
          · exact State.Keeps.refl k.lawful
        · exact State.keeps_report k.lawful _
      · exact State.keeps_charTaken h n _ _
  · exact State.keeps_charTaken h n _ _

theorem State.keeps_badCharacter {s : State} (h : s.Lawful) (n : LineNo) : s.Keeps (s.badCharacter n) := by
  unfold State.badCharacter
  split
  · exact State.keeps_charTaken h n _ _
  · exact (State.keeps_charTaken h n _ _).still (State.still_report _ _)
  · exact State.keeps_charTaken h n _ _

theorem State.keeps_gapExpiry {s : State} (h : s.Lawful) (n : LineNo) : s.Keeps (s.gapExpiry n) := by
  unfold State.gapExpiry
  split
  · exact State.Keeps.refl h
  · exact ((s.still_setLine n).trans (State.still_report _ _)).keeps h
  · exact State.Keeps.refl h

/-- A frame whose characters are received whole is taken on an UP line (R108, R109). -/
theorem State.keeps_receiveFrame {s : State} (h : s.Lawful) (k : FrameKind) (n : LineNo) (f : UpFields) {t : State → State}
    (ht : ∀ u : State, u.Lawful → (u.line n).link = .up → u.Keeps (t u)) : s.Keeps (s.receiveFrame k n f t) := by
  unfold State.receiveFrame
  refine State.keeps_ite _ h fun hc => ?_
  have hu : (s.line n).link = .up := by
    simp only [State.receivable, State.forming, Bool.and_eq_true, beq_iff_eq] at hc
    exact hc.2.1.2
  have k := State.keeps_charTaken h n true .hunting
  exact k.trans (ht _ k.lawful (by rw [State.line_charTaken_link]; exact hu))

theorem State.still_period (s : State) :
    s.Still (s.mapLines fun n l => l.period s.pins.rxdMark[n.val] s.params.lineRate[n.val]) := by
  refine s.still_mapLines (fun n l => ?_) (fun n l => ?_) (fun n l => ?_)
  all_goals unfold Line.period; split <;> rfl

end Sys2Proof.Machine
end

section
/-!
The Parameter Store (R192, R204): reading a parameter after a write, and that the writes keep every range.
-/

namespace Sys2Proof.Machine

/-! ### Reading after writing -/

theorem getD_setAt {α : Type} {k : Nat} (xs : Vector α k) {i : Nat} (hi : i < k) (j : Nat) (x d : α) :
    (setAt xs i x).toList.getD j d = if j = i then x else xs.toList.getD j d := by
  simp only [setAt, dif_pos hi, Vector.toList_set, List.getD_eq_getElem?_getD, List.getElem?_set, Vector.length_toList]
  by_cases h : i = j
  · subst h; simp [hi]
  · simp [h, Ne.symm h]

/-- A write leaves the other parameters as they are (R192). -/
theorem Params.read_write_of_ne (ps : Params) {p q : Param} (h : q ≠ p) (i j v : Nat) :
    (ps.write p i v).read q j = ps.read q j := by
  cases p with
  | deadlineClass k =>
    cases q with
    | deadlineClass l =>
      have hkl : k.val ≠ l.val := fun he => h (by rw [Fin.ext he])
      exact Vector.getElem_set_ne k.isLt l.isLt hkl
    | _ => rfl
  | _ => cases q <;> simp_all [Params.write, Params.read]

/-- A write leaves the other indexes of its parameter as they are (R192). -/
theorem Params.read_write_of_index_ne (ps : Params) {p : Param} {i j : Nat} (hi : i < p.indexCount)
    (hj : j < p.indexCount) (h : j ≠ i) (v : Nat) : (ps.write p i v).read p j = ps.read p j := by
  cases p with
  | lineEnable | lineRate | windowLimit | probeInterval | errorClass | faultEnable =>
    simp only [Param.indexCount] at hi
    simp only [Params.write, Params.read, getD_setAt _ hi, if_neg h]
  | _ =>
    simp only [Param.indexCount] at hi hj
    omega

/-- A parameter reads what has been written, when it is in range (R192, R193). -/
theorem Params.read_write_self (ps : Params) {p : Param} {i v : Nat} (hi : i < p.indexCount) (hv : v ≤ p.greatest) :
    (ps.write p i v).read p i = v := by
  cases p with
  | lineEnable | faultEnable =>
    simp only [Param.indexCount, Param.greatest] at hi hv
    simp only [Params.write, Params.read, getD_setAt _ hi, if_true]
    interval_cases v <;> rfl
  | errorClass =>
    simp only [Param.indexCount, Param.greatest] at hi hv
    simp only [Params.write, Params.read, getD_setAt _ hi, if_true]
    interval_cases v <;> rfl
  | lineRate | windowLimit | probeInterval =>
    simp only [Param.indexCount] at hi
    simp only [Params.write, Params.read, getD_setAt _ hi, if_true]
  | noteEnable =>
    simp only [Param.greatest] at hv
    simp only [Params.write, Params.read, BitVec.toNat_ofNat]
    omega
  | deadlineClass k => exact Vector.getElem_set_self _
  | _ => rfl

theorem Params.InRange.write {ps : Params} (h : ps.InRange) {p : Param} {i v : Nat} (hi : i < p.indexCount)
    (hl : p.least ≤ v) (hg : v ≤ p.greatest) : (ps.write p i v).InRange := by
  intro q j hj
  by_cases hq : q = p
  · subst hq
    by_cases hji : j = i
    · subst hji
      rw [ps.read_write_self hi hg]
      exact ⟨hl, hg⟩
    · rw [ps.read_write_of_index_ne hi hj hji]
      exact h q j hj
  · rw [ps.read_write_of_ne hq]
    exact h q j hj

theorem Params.inRange_defaults : Params.defaults.InRange := by
  intro p
  cases p with
  | deadlineClass k => revert k; decide
  | _ => decide

/-! ### SET PARAMETER (R192) -/

/-- What a parameter that passes the checks of R192 has passed. -/
theorem State.checkedParam_some {s : State} {number index value : Nat} {p : Param}
    (h : s.checkedParam number index value = some p) :
    Param.ofNumber number = some p ∧ index < p.indexCount ∧ p.least ≤ value ∧ value ≤ p.greatest ∧
      s.writableNow p index = true := by
  unfold State.checkedParam at h
  split at h
  · cases h
  · split at h
    · cases h; exact ⟨‹_›, ‹_›⟩
    · cases h

theorem State.keeps_signal {s : State} (h : s.Lawful) (c : Bool) (e : Option Tick) :
    s.Keeps { s with signalC := c, idleTimer := e } :=
  State.keeps_of_same h rfl rfl rfl rfl rfl rfl rfl fun c => c.congr rfl rfl

theorem State.keeps_afterCoalesceWrite {s : State} (h : s.Lawful) : s.Keeps s.afterCoalesceWrite := by
  unfold State.afterCoalesceWrite
  split
  · exact State.keeps_signal h _ _
  · split
    · exact State.keeps_signal h _ _
    · exact State.keeps_signal h _ _

theorem State.keeps_afterWrite {s : State} (h : s.Lawful) (p : Param) (index value : Nat) :
    s.Keeps (s.afterWrite p index value) := by
  unfold State.afterWrite
  split
  · split
    · exact State.keeps_lineEnabled h _ _
    · exact State.Keeps.refl h
  · exact State.keeps_afterCoalesceWrite h
  · exact State.Keeps.refl h

theorem State.keeps_commandError {s : State} (h : s.Lawful) : s.Keeps s.commandError := State.keeps_report h _

theorem State.keeps_writeParameter {s : State} (h : s.Lawful) (number index value : Nat) :
    s.Keeps (s.writeParameter number index value) := by
  unfold State.writeParameter
  split
  · exact State.keeps_commandError h
  · rename_i p hp
    obtain ⟨-, hi, hl, hg, -⟩ := State.checkedParam_some hp
    have k : s.Keeps { s with params := s.params.write p index value } :=
      State.keeps_of_same h rfl rfl rfl rfl rfl rfl rfl fun c => ⟨c.params.write hi hl hg, c.records⟩
    exact k.trans (State.keeps_afterWrite k.lawful p index value)

end Sys2Proof.Machine
end

section
/-!
The controller port, the resets and the step: every command keeps the laws and the counts.
-/

namespace Sys2Proof.Machine

/-! ### Which record the port holds -/

/-- Until all parameter bytes have arrived the port holds no record (R29, R143, R144). -/
theorem State.Lawful.port_free {s : State} (h : s.Lawful)
    (hb : ∀ o, s.port.op = some o → s.port.bytes.length < 1 + o.paramCount) :
    s.port.reserved = none ∧ s.port.named = none := by
  constructor
  · by_contra hne
    obtain ⟨hop, hlen⟩ := h.port.reserved (Option.isSome_iff_ne_none.mpr hne)
    have := hb _ hop
    simp only [Opcode.paramCount] at this
    omega
  · by_contra hne
    rcases h.port.named (Option.isSome_iff_ne_none.mpr hne) with ⟨hop, hlen⟩ | ⟨hop, hlen⟩
    all_goals
      have := hb _ hop
      simp only [Opcode.paramCount] at this
      omega

/-- The instructions whose transaction can hold a record: POST, COLLECT and COLLECT NEXT. -/
def holdsRecord : Opcode → Bool
  | .post => true
  | .collect => true
  | .collectNext => true
  | _ => false

/-- Another instruction's transaction holds no record. -/
theorem State.Lawful.port_free_of_op {s : State} (h : s.Lawful)
    (hop : ∀ o, s.port.op = some o → holdsRecord o = false) : s.port.reserved = none ∧ s.port.named = none := by
  constructor
  · by_contra hne
    obtain ⟨ho, -⟩ := h.port.reserved (Option.isSome_iff_ne_none.mpr hne)
    cases hop _ ho
  · by_contra hne
    rcases h.port.named (Option.isSome_iff_ne_none.mpr hne) with ⟨ho, -⟩ | ⟨ho, -⟩ <;> cases hop _ ho

/-- A collection reserves no record. -/
theorem State.Lawful.reserved_none_of_op {s : State} (h : s.Lawful) (hop : s.port.op ≠ some .post) :
    s.port.reserved = none := by
  by_contra hne
  exact hop (h.port.reserved (Option.isSome_iff_ne_none.mpr hne)).1

/-- Bytes arrive while the port holds no record. -/
theorem State.keeps_arrival {s : State} (h : s.Lawful) (hr : s.port.reserved = none) (hn : s.port.named = none)
    (bs : List Byte) {k : Nat} (hk : bs.length ≤ k) : s.Keeps { s with port := { s.port with bytes := bs, count := k } } :=
  ⟨⟨State.TableLawful.lawful (h.table.congr rfl rfl rfl rfl) (h.none_reserved hr) hr hn h.port.opened hk,
    fun c => c.congr rfl rfl⟩, id⟩

/-! ### Decisions (R185) -/

/-- The last parameter byte of an instruction has just arrived in a transaction that is not ignored, and its decision is
to be taken. -/
structure State.Deciding (o : Opcode) (s : State) : Prop where
  lawful : s.Lawful
  opened : s.port.phase = .opened
  heard : s.port.ignored = false
  op : s.port.op = some o
  bytes : s.port.bytes.length = 1 + o.paramCount
  unreserved : s.port.reserved = none
  unnamed : s.port.named = none

/-- An instruction other than READ STATUS is heard only in a served transaction (R194). -/
theorem State.Deciding.served {o : Opcode} {s : State} (h : s.Deciding o) (ho : o ≠ .readStatus) :
    s.port.status.getLsbD 2 = false := by
  have := h.heard
  rw [Port.ignored, h.op] at this
  simpa [ho] using this

theorem Record.shaped_reserved (g : Gen) (h : PostHeader) : (reservedRecord g h).Shaped :=
  ⟨rfl, rfl, ⟨nofun, nofun⟩, rfl, nofun, fun _ => rfl⟩

theorem parsePostHeader_budget {h1 h2 h3 h4 : Byte} {h : PostHeader} (hp : parsePostHeader h1 h2 h3 h4 = some h) :
    h.retryBudget ≤ 3 := by
  unfold parsePostHeader at hp
  split at hp
  · cases hp
  · split at hp
    · split at hp
      · cases hp; rename_i hc _; exact hc.2.1
      · cases hp
    · cases hp

/-- The FREE record of lowest index is FREE (R9). -/
theorem State.lowestFree_free {s : State} {r : RecordIdx} (h : s.lowestFree = some r) : (s.record r).state = .free := by
  have := List.find?_some h
  simpa using this

/-- A POST reserves a FREE record (R9, R29). -/
theorem State.keepsLaws_reserve {s : State} (d : s.Deciding .post) {h : PostHeader} (hb : h.retryBudget ≤ 3)
    {r : RecordIdx} (hr : (s.record r).state = .free) : s.KeepsLaws (s.reserve h r) := by
  have hl := d.lawful
  have hrec : ∀ i, (s.reserve h r).record i = if i = r then reservedRecord (s.record r).gen h else s.record i :=
    fun i => s.record_setRecord r i _
  have hnone := hl.none_reserved d.unreserved
  refine ⟨⟨fun i => ?_, hl.dispatch.congr (fun _ => rfl) fun i => ?_, hl.completion.congr rfl fun i => ?_, fun i => ?_,
    hl.live.keep ⟨fun _ => rfl, fun _ => rfl, fun _ _ h => h⟩ fun i hi => ?_,
    ⟨hl.port.opened, hl.port.counted, fun _ => ⟨d.opened, d.served (by decide), hl.port.counted⟩,
      fun _ => ⟨d.op, d.bytes⟩, fun hn => ?_, fun i hn => ?_⟩⟩, fun c => ⟨c.params, fun i => ?_⟩⟩
  · rw [hrec]
    split
    · exact Record.shaped_reserved _ h
    · exact hl.shaped i
  · rw [hrec]
    split
    · subst i; exact .of_not_queued (by rw [hr]; simp) (by simp [reservedRecord])
    · exact Record.SameInQueue.refl _
  · rw [hrec]
    split
    · subst i; rw [hr]; rfl
    · rfl
  · show _ ↔ some r = some i
    rw [hrec]
    split
    · subst i; exact ⟨fun _ => rfl, fun _ => rfl⟩
    · rename_i hi
      exact ⟨fun hx => absurd hx (hnone i), fun hx => absurd (Option.some.inj hx).symm hi⟩
  · rw [hrec] at hi ⊢
    split at hi
    · cases hi
    · rw [if_neg ‹_›]; exact ⟨hi, rfl⟩
  · change s.port.named.isSome = true at hn
    rw [d.unnamed] at hn
    cases hn
  · change s.port.named = some i at hn
    rw [d.unnamed] at hn
    cases hn
  · rw [hrec]
    split
    · constructor <;> simp [reservedRecord, Record.blank, hb]
    · exact c.records i

theorem keepsLaws_takePostAdmission {s : State} (d : s.Deciding .post) (h1 h2 h3 h4 : Byte) :
    s.KeepsLaws (takePostAdmission h1 h2 h3 h4 s) := by
  unfold takePostAdmission
  split
  · have k := State.keeps_respond d.lawful (refusalBytes .badRequest)
    exact (k.trans (State.keeps_commandError k.lawful)).toKeepsLaws
  · split
    · exact (State.keeps_respond d.lawful _).toKeepsLaws
    · split
      · exact State.keepsLaws_reserve d (parsePostHeader_budget ‹_›) (State.lowestFree_free ‹_›)
      · exact (State.keeps_respond d.lawful _).toKeepsLaws

/-- A collection names a terminal record (R143, R144). -/
theorem State.keeps_nameRecord {o : Opcode} {s : State} (d : s.Deciding o) (ho : o = .collect ∨ o = .collectNext)
    {r : RecordIdx} (hr : (s.record r).state.terminal = true) : s.Keeps (s.nameRecord r) := by
  have hl := d.lawful
  have ht : (s.nameRecord r).TableLawful := hl.table.congr rfl rfl rfl rfl
  have hserved := d.served (by rcases ho with rfl | rfl <;> decide)
  refine ⟨⟨⟨ht.shaped, ht.dispatch, ht.completion, hl.reserved, ht.live,
    ⟨hl.port.opened, hl.port.counted, fun _ => ⟨d.opened, hserved, hl.port.counted⟩, hl.port.reserved, fun _ => ?_,
      fun i hi => ?_⟩⟩, fun c => c.congr rfl rfl⟩, id⟩
  · rcases ho with rfl | rfl
    · exact .inl ⟨d.op, d.bytes⟩
    · exact .inr ⟨d.op, d.bytes⟩
  · obtain rfl : r = i := Option.some.inj hi
    exact hr

theorem keeps_takeCollect {s : State} (d : s.Deciding .collect) (index gen : Byte) :
    s.Keeps (takeCollect index gen s) := by
  unfold takeCollect
  split
  · exact State.keeps_commandError d.lawful
  · exact State.keeps_respond d.lawful _
  · split
    · exact State.keeps_nameRecord d (.inl rfl) ‹_›
    · exact State.keeps_respond d.lawful _

theorem keeps_takeCollectNext {s : State} (d : s.Deciding .collectNext) : s.Keeps (takeCollectNext s) := by
  unfold takeCollectNext
  split
  · exact State.keeps_respond d.lawful _
  · rename_i r rs hq
    exact State.keeps_nameRecord d (.inr rfl) ((d.lawful.completion.all r).mp (hq ▸ List.mem_cons_self))

theorem State.Keeps.respond {s t : State} (k : s.Keeps t) (bs : List Byte) : s.Keeps (t.respond bs) :=
  k.trans (State.keeps_respond k.lawful bs)

theorem State.keeps_cancelRecord {s : State} (h : s.Lawful) {r : RecordIdx} (hr : (s.record r).state.live = true) :
    s.Keeps (s.cancelRecord r) := by
  unfold State.cancelRecord
  dsimp only
  have k : s.Keeps (s.endRecords .cancelled true [r]) := by
    refine (State.evolves_endRecords h.dispatch (by decide) true (List.nodup_singleton r)
      fun i hi => ?_).keeps_of_links h (s.links_endRecords _ _ _)
    rw [List.mem_singleton] at hi
    subst hi
    exact hr
  refine State.Keeps.settle ?_ _
  split
  · exact k.still (State.still_offer _ _ _)
  · exact k

theorem keeps_takeCancel {s : State} (h : s.Lawful) (index gen : Byte) : s.Keeps (takeCancel index gen s) := by
  unfold takeCancel
  split
  · exact State.keeps_commandError h
  · exact State.keeps_respond h _
  · split
    · exact State.keeps_respond h _
    · exact State.keeps_ite _ h fun hr => (State.keeps_cancelRecord h hr).respond _

/-- A decision that answers with a response or reports COMMAND_ERROR, according to its operand. -/
theorem keeps_takeReads {s : State} (h : s.Lawful) (a b : Byte) :
    s.Keeps (takeReadRecord a b s) ∧ s.Keeps (takeReadStation a s) ∧ s.Keeps (takeAckAttention a s) ∧
      s.Keeps (takeReadLine a s) ∧ s.Keeps (takeReadParameter a b s) := by
  have he := State.keeps_commandError h
  have hr := State.keeps_respond h
  refine ⟨?_, ?_, ?_, ?_, ?_⟩
  · unfold takeReadRecord; split
    · exact he
    · exact hr _
    · exact hr _
  · unfold takeReadStation; split
    · exact he
    · exact hr _
  · unfold takeAckAttention; split
    · exact he
    · split <;> exact hr _
  · unfold takeReadLine; split
    · exact he
    · exact hr _
  · unfold takeReadParameter; split
    · exact he
    · split
      · exact hr _
      · exact he

theorem keeps_takeEnableStation {s : State} (h : s.Lawful) (b : Byte) : s.Keeps (takeEnableStation b s) := by
  unfold takeEnableStation
  split
  · exact State.keeps_commandError h
  · split
    · exact (State.keeps_enableStation h ‹_›).respond _
    all_goals exact State.keeps_respond h _

theorem keeps_takeDisableStation {s : State} (h : s.Lawful) (b : Byte) : s.Keeps (takeDisableStation b s) := by
  unfold takeDisableStation
  split
  · exact State.keeps_commandError h
  · split
    · exact State.keeps_respond h _
    all_goals exact (State.keeps_disableStation h _).respond _

theorem keeps_takeQuiesceLine {s : State} (h : s.Lawful) (b : Byte) : s.Keeps (takeQuiesceLine b s) := by
  unfold takeQuiesceLine
  split
  · exact State.keeps_commandError h
  · split
    · exact (State.keeps_quiesceLine h _).respond _
    · exact State.keeps_respond h _

theorem keeps_takeResumeLine {s : State} (h : s.Lawful) (b : Byte) : s.Keeps (takeResumeLine b s) := by
  unfold takeResumeLine
  split
  · exact State.keeps_commandError h
  · split
    · exact State.keeps_respond h _
    · exact (State.keeps_resumeLine h _).respond _

/-- Every instruction's decision keeps the laws (R185). -/
theorem keepsLaws_takeDecision {o : Opcode} {s : State} (d : s.Deciding o) (p : Nat → Byte) :
    s.KeepsLaws (takeDecision o p s) := by
  have h := d.lawful
  have hreads := keeps_takeReads h (p 0) (p 1)
  obtain ⟨hrecord, hstation, hack, hline, hparam⟩ := hreads
  cases o with
  | post => exact keepsLaws_takePostAdmission d _ _ _ _
  | readStatus | readErrors => exact (State.keeps_respond h _).toKeepsLaws
  | cancel => exact (keeps_takeCancel h _ _).toKeepsLaws
  | collect => exact (keeps_takeCollect d _ _).toKeepsLaws
  | collectNext => exact (keeps_takeCollectNext d).toKeepsLaws
  | readRecord => exact hrecord.toKeepsLaws
  | readStation => exact hstation.toKeepsLaws
  | enableStation => exact (keeps_takeEnableStation h _).toKeepsLaws
  | disableStation => exact (keeps_takeDisableStation h _).toKeepsLaws
  | ackAttention => exact hack.toKeepsLaws
  | readLine => exact hline.toKeepsLaws
  | quiesceLine => exact (keeps_takeQuiesceLine h _).toKeepsLaws
  | resumeLine => exact (keeps_takeResumeLine h _).toKeepsLaws
  | readParameter => exact hparam.toKeepsLaws
  | readStationChanges | lineReset | setParameter | clearErrors | softReset => exact (State.Keeps.refl h).toKeepsLaws

/-- An instruction's bytes that have not yet arrived arrive, and its decision is taken. -/
theorem State.keepsLaws_arriveThrough {s : State} (h : s.Lawful) {o : Opcode} {ps : List Byte}
    (hlen : ps.length = o.paramCount) {t : State → State} (ht : ∀ u : State, u.Deciding o → u.KeepsLaws (t u)) :
    s.KeepsLaws (s.arriveThrough o ps t) := by
  unfold State.arriveThrough
  split
  case isFalse => exact (State.Keeps.refl h).toKeepsLaws
  case isTrue ha =>
    simp only [State.awaits, State.portOpen, Bool.and_eq_true, decide_eq_true_eq, beq_iff_eq] at ha
    obtain ⟨⟨⟨-, hopen⟩, hcount⟩, hbytes⟩ := ha
    have hfree := h.port_free fun o' ho' => by
      rw [Port.op, hbytes] at ho'
      rw [hbytes, List.length_take]
      cases hc : s.port.count with
      | zero => rw [hc] at ho'; cases ho'
      | succ k =>
        rw [hc] at ho'
        obtain rfl : o = o' := Option.some.inj ((Opcode.ofByte_code o).symm.trans ho')
        simp only [List.length_cons] at hcount
        omega
    have k := State.keeps_arrival h hfree.1 hfree.2 (o.code :: ps) (k := (o.code :: ps).length) le_rfl
    dsimp only
    split
    · exact k.toKeepsLaws
    · refine k.toKeepsLaws.trans (ht _ ⟨k.lawful, hopen, Bool.eq_false_iff.mpr ‹_›, Opcode.ofByte_code o, ?_, hfree.1, hfree.2⟩)
      show (o.code :: ps).length = _
      rw [List.length_cons, hlen]
      omega

/-! ### The rise of CSn (R10, R31, R32, R146, R151, R185) -/

/-- A record that is not live becomes FREE (R1, R18). -/
theorem State.record_freeRecord (s : State) (r i : RecordIdx) :
    (s.freeRecord r).record i = if i = r then Record.blank ((s.record r).gen + 1) else s.record i :=
  s.record_setRecord r i _

/-- What the freeing of a record that is not live keeps; the completion queue is the caller's. -/
theorem State.keepsTable_freed {s t : State} (h : s.TableLawful) {r : RecordIdx} (hr : (s.record r).state.live = false)
    (ht : ∀ i, t.record i = if i = r then Record.blank ((s.record r).gen + 1) else s.record i)
    (hs : t.stations = s.stations) (hl : t.lines = s.lines) (hp : t.params = s.params) (hc : t.CompletionLawful) :
    s.KeepsTable t := by
  have hnq : (s.record r).state ≠ .queued := fun hq => by rw [hq] at hr; cases hr
  refine ⟨⟨fun i => ?_, h.dispatch.congr (fun n => by rw [State.line_congr hl]) fun i => ?_, hc,
    h.live.keep ⟨fun st => by rw [State.entry_congr hs], fun n => by rw [State.line_congr hl],
      fun n _ he => by rw [State.line_congr hl]; exact he⟩ fun i hi => ?_⟩, fun c => ⟨hp ▸ c.params, fun i => ?_⟩⟩
  · rw [ht]
    split
    · exact Record.shaped_blank _
    · exact h.shaped i
  · rw [ht]
    split
    · subst i; exact .of_not_queued hnq (by simp [Record.blank])
    · exact Record.SameInQueue.refl _
  · rw [ht] at hi ⊢
    split at hi
    · cases hi
    · rw [if_neg ‹_›]; exact ⟨hi, rfl⟩
  · rw [ht]
    split
    · exact Record.counted_blank _
    · exact c.records i

/-- The record a POST reserved no longer is, and no other was. -/
theorem State.Lawful.unreserved_after {s t : State} (h : s.Lawful) {r : RecordIdx} (hr : s.port.reserved = some r)
    (ht : (t.record r).state ≠ .reserved)
    (hrest : ∀ i, i ≠ r → ((t.record i).state = .reserved ↔ (s.record i).state = .reserved)) (i : RecordIdx) :
    (t.record i).state ≠ .reserved := by
  by_cases hi : i = r
  · subst hi; exact ht
  · rw [Ne, hrest i hi, h.reserved i, hr]
    exact fun he => hi (Option.some.inj he).symm

/-- A reserved record fails at its commit (R31). -/
theorem State.keepsTable_failReserved {s : State} (h : s.TableLawful) {r : RecordIdx}
    (hr : (s.record r).state = .reserved) {o : ExchOutcome} (ho : o ≠ .done) :
    s.KeepsTable (s.endRecords o false [r]) := by
  have hrec : ∀ i, (s.endRecords o false [r]).record i = if i = r then (s.record r).ended o else s.record i := by
    intro i
    rw [State.record_endRecords]
    simp only [List.mem_singleton]
    split
    · subst i; rfl
    · rfl
  refine ⟨⟨fun i => ?_, State.dispatch_endRecords h.dispatch _ _ _,
    State.completion_endRecords h.completion _ _ (List.nodup_singleton r) fun i hi => ?_,
    h.live.keep (s.links_endRecords _ _ _) fun i hi => ?_⟩,
    fun c => ⟨(s.rest_endRecords _ _ _).params ▸ c.params, fun i => ?_⟩⟩
  · rw [hrec]
    split
    · exact Record.shaped_ended _ _
    · exact h.shaped i
  · rw [List.mem_singleton] at hi
    subst hi
    rw [hr]; rfl
  · rw [hrec] at hi ⊢
    split at hi
    · have := Record.ended_terminal o (s.record r)
      rw [RecState.not_terminal_of_live hi] at this
      cases this
    · rw [if_neg ‹_›]; exact ⟨hi, rfl⟩
  · rw [hrec]
    split
    · exact (c.records r).failed (by rw [hr]; simp) ho
    · exact c.records i

/-- A reserved record of a PRESENT station is queued at its commit (R10). -/
theorem State.keepsTable_commit {s : State} (h : s.TableLawful) {r : RecordIdx} (hr : (s.record r).state = .reserved)
    (hst : (s.entry (s.record r).station).state = .present) : s.KeepsTable (s.queueAtTail r) := by
  have hrec := State.record_queueAtTail r
  have hsh := h.shaped r
  have hout := hsh.outcome
  have hseq := hsh.seq
  have hfresh := hsh.fresh hr
  rw [hr] at hout
  simp only [Record.holds, hr] at hseq
  refine ⟨⟨fun i => ?_, State.dispatch_queueAtTail h.dispatch (by rw [hr]; simp),
    h.completion.congr (s.quiet_queueAtTail r).completionQ fun i => ?_, ⟨fun i hi => ?_, fun st hp => ?_, fun n hn => ?_⟩⟩,
    fun c => ⟨c.params, fun i => ?_⟩⟩
  · rw [hrec]
    split
    · refine ⟨rfl, hout, ⟨nofun, fun he => ?_⟩, ?_, nofun, nofun⟩
      · change (s.record r).outcome = _ at he
        rw [he] at hout
        cases hout
      · simpa [Record.requeued, Record.holds, hfresh, RecState.inFlight] using hseq
    · exact h.shaped i
  · rw [hrec]
    split
    · subst i; rw [hr]; rfl
    · rfl
  · rw [hrec] at hi ⊢
    show (s.entry _).state = _
    split at hi
    · rw [if_pos ‹_›]; exact hst
    · rw [if_neg ‹_›]; exact h.live.station i hi
  · rw [(s.links_queueAtTail r).links]
    exact h.live.link st hp
  · rw [(s.links_queueAtTail r).links] at hn
    exact (s.links_queueAtTail r).control n hn (h.live.control n hn)
  · rw [hrec]
    split
    · obtain ⟨h1, h2, h3, h4, h5, h6, h7, -⟩ := c.records r
      have hs := (c.records r).no_status (by rw [hr]; simp)
      exact ⟨h1, h2, h3, h4, fun _ => h5 (.inl hr), h6, h7, by simp [Record.requeued, hs]⟩
    · exact c.records i

theorem keepsLaws_takePostCommit {s : State} (h : s.Lawful) : s.KeepsLaws (takePostCommit s).closePort := by
  unfold takePostCommit
  split
  case h_1 hp => exact (State.Keeps.refl h).closePort hp
  case h_2 r hp =>
    have hr : (s.record r).state = .reserved := (h.reserved r).mpr hp
    split
    · unfold State.commitRecord
      have hend : ∀ o : ExchOutcome, o ≠ .done → s.KeepsLaws (s.endRecords o false [r]).closePort := fun o ho => by
        refine (State.keepsTable_failReserved h.table hr ho).closePort (h.unreserved_after hp ?_ fun i hi => ?_)
        · rw [State.record_endRecords, if_pos (List.mem_singleton_self r)]
          simp only [Record.ended, if_neg ho]
          simp
        · rw [State.record_endRecords, if_neg (by simpa using hi)]
      split
      · exact hend _ (by decide)
      · split
        · exact hend _ (by decide)
        · have k := State.keepsTable_commit h.table hr (not_not.mp ‹_›)
          have e := State.evolves_choose k.table.dispatch (s.record r).line
          refine (k.trans (e.keepsTable_of_links k.table (State.links_choose _ _))).closePort
            (h.unreserved_after hp ?_ fun i hi => ?_)
          · rw [Ne, (e.records r).reserved, State.record_queueAtTail, if_pos rfl]
            simp [Record.requeued]
          · rw [(e.records i).reserved, State.record_queueAtTail, if_neg hi]
    · have hrec := s.record_freeRecord r
      have hterm : ∀ i, ((s.freeRecord r).record i).state.terminal = (s.record i).state.terminal := fun i => by
        rw [hrec]
        split
        · subst i; rw [hr]; rfl
        · rfl
      have k : s.KeepsTable (s.freeRecord r).commandError :=
        State.keepsTable_freed h.table (by rw [hr]; rfl) hrec rfl rfl rfl (h.completion.congr rfl hterm)
      refine k.closePort (h.unreserved_after hp ?_ fun i hi => ?_)
      · show ((s.freeRecord r).record r).state ≠ _
        rw [hrec, if_pos rfl]
        simp [Record.blank]
      · show ((s.freeRecord r).record i).state = _ ↔ _
        rw [hrec, if_neg hi]

/-- C and the idle timer after a collection are no part of the laws. -/
theorem State.afterCollection_same (s : State) : s.afterCollection.records = s.records ∧
    s.afterCollection.stations = s.stations ∧ s.afterCollection.lines = s.lines ∧
    s.afterCollection.completionQ = s.completionQ ∧ s.afterCollection.params = s.params := by
  unfold State.afterCollection
  split
  · exact ⟨rfl, rfl, rfl, rfl, rfl⟩
  · split <;> exact ⟨rfl, rfl, rfl, rfl, rfl⟩

theorem keepsLaws_takeCollection {s : State} (h : s.Lawful) (hop : s.port.op ≠ some .post) :
    s.KeepsLaws (takeCollection s).closePort := by
  have hnone := h.reserved_none_of_op hop
  unfold takeCollection
  split
  · exact (State.Keeps.refl h).closePort hnone
  · rename_i r hr
    split
    · unfold State.collectRecord
      dsimp only
      generalize hu : ({ s.freeRecord r with
        completionQ := (s.freeRecord r).completionQ.filter (fun q => q != r) } : State) = u
      obtain ⟨h1, h2, h3, h4, h5⟩ := u.afterCollection_same
      have hterm := h.port.terminal r hr
      have hlive : (s.record r).state.live = false := by
        by_contra hl
        rw [RecState.not_terminal_of_live (by simpa using hl)] at hterm
        cases hterm
      have hrec : ∀ i, u.record i = if i = r then Record.blank ((s.record r).gen + 1) else s.record i := by
        subst hu; exact s.record_freeRecord r
      have hrec' : ∀ i, u.afterCollection.record i = u.record i := State.record_congr h1
      have hq : u.completionQ = s.completionQ.filter (fun q => q != r) := by subst hu; rfl
      have k : s.KeepsTable u.afterCollection := by
        refine State.keepsTable_freed h.table hlive (fun i => by rw [hrec', hrec]) (by rw [h2]; subst hu; rfl)
          (by rw [h3]; subst hu; rfl) (by rw [h5]; subst hu; rfl) ⟨?_, fun i => ?_⟩
        · rw [h4, hq]
          exact h.completion.once.filter _
        · rw [h4, hq, List.mem_filter, hrec', hrec, h.completion.all]
          split
          · subst i; simp [Record.blank, RecState.terminal]
          · simp [*]
      refine k.closePort fun i => ?_
      rw [hrec', hrec]
      split
      · simp [Record.blank]
      · exact h.none_reserved hnone i
    · exact (State.Keeps.refl h).closePort hnone

/-! ### The other effects at the rise of CSn -/

theorem keeps_takeStationChangesClear {s : State} (h : s.Lawful) : s.Keeps (takeStationChangesClear s) := by
  have hstate : ∀ b d (e : Entry), (clearReported b d e).state = e.state := fun b d e => by
    unfold clearReported
    split <;> rfl
  have k : s.Still (takeStationChangesClear s) := by
    refine ⟨⟨by simp [takeStationChangesClear], fun n => by simp [takeStationChangesClear],
      ⟨⟨?_, ?_, ?_, ?_, ?_, ?_, ?_, ?_, ?_, ?_⟩, ?_, ?_, ?_⟩⟩, fun st => ?_, fun n => by simp [takeStationChangesClear],
      fun n _ he => by simpa [takeStationChangesClear] using he⟩
    case refine_14 =>
      unfold takeStationChangesClear
      rw [State.entry_mapEntries]
      split
      · exact hstate _ _ _
      · rfl
    all_goals simp [takeStationChangesClear]
  exact k.keeps h

theorem keeps_takeAcknowledge {s : State} (h : s.Lawful) : s.Keeps (takeAcknowledge s) := by
  unfold takeAcknowledge
  refine State.keeps_ite _ h fun _ => ?_
  split
  · exact (s.still_setEntry _).keeps h
  · exact State.Keeps.refl h

theorem keeps_takeFinishedClear {s : State} (h : s.Lawful) : s.Keeps (takeFinishedClear s) := by
  unfold takeFinishedClear
  refine State.keeps_ite _ h fun _ => ?_
  split
  · exact (s.still_setLine _).keeps h
  · exact State.Keeps.refl h

theorem keeps_takeLineReset {s : State} (h : s.Lawful) (b : Byte) : s.Keeps (takeLineReset b s) := by
  unfold takeLineReset
  split
  · exact State.keeps_commandError h
  · exact State.keeps_lineResetTaken h _

theorem keeps_takeClearErrors {s : State} (h : s.Lawful) : s.Keeps (takeClearErrors s) :=
  State.keeps_of_same h rfl rfl rfl rfl rfl rfl rfl fun c => c.congr rfl rfl

/-- The rise of CSn with the effect of the instruction in progress (R185). -/
theorem keepsLaws_takeRise {s : State} (h : s.Lawful) {o : Opcode} (ho : s.port.op = some o) (p : Nat → Byte) :
    s.KeepsLaws (takeRise o p s).closePort := by
  have hcollect : o ≠ .post → s.KeepsLaws (takeCollection s).closePort := fun hne =>
    keepsLaws_takeCollection h (by rw [ho]; simpa using hne)
  have hother : holdsRecord o = false → s.port.reserved = none ∧ s.port.named = none := fun hf =>
    h.port_free_of_op fun o' ho' => by
      rw [ho] at ho'
      obtain rfl := Option.some.inj ho'
      exact hf
  cases o with
  | post => exact keepsLaws_takePostCommit h
  | collect | collectNext => exact hcollect (by decide)
  | readStationChanges => exact (keeps_takeStationChangesClear h).closePort (hother rfl).1
  | ackAttention => exact (keeps_takeAcknowledge h).closePort (hother rfl).1
  | readLine => exact (keeps_takeFinishedClear h).closePort (hother rfl).1
  | lineReset => exact (keeps_takeLineReset h _).closePort (hother rfl).1
  | setParameter => exact (State.keeps_writeParameter h _ _ _).closePort (hother rfl).1
  | clearErrors => exact (keeps_takeClearErrors h).closePort (hother rfl).1
  | softReset => exact (keeps_takeSoftReset h (hother rfl).1 (hother rfl).2).closePort (hother rfl).1
  | _ => exact (State.Keeps.refl h).closePort (hother rfl).1

/-- The first bytes of an instruction that holds no record, or of an unknown opcode, stand in the port, and the others
arrive. -/
theorem State.keeps_carried {s : State} (h : s.Lawful) {b : Byte} {bs : List Byte}
    (hb : ∀ o, Opcode.ofByte b = some o → holdsRecord o = false) (hc : s.carries (b :: bs) = true) :
    s.port.reserved = none ∧ s.port.named = none ∧ s.Keeps { s with port := s.port.havingAtLeast (b :: bs) } := by
  simp only [State.carries, Bool.and_eq_true, beq_iff_eq] at hc
  obtain ⟨hr, hn⟩ := h.port_free_of_op fun o ho => by
    rw [Port.op, hc.2] at ho
    cases hk : s.port.count with
    | zero => rw [hk] at ho; cases ho
    | succ k => rw [hk] at ho; exact hb o ho
  exact ⟨hr, hn, State.keeps_arrival h hr hn (b :: bs) (le_max_right _ _)⟩

/-- They arrive, and CSn rises with the instruction's effect. -/
theorem State.keepsLaws_riseThrough {s : State} (h : s.Lawful) {b : Byte} {bs : List Byte}
    (hb : ∀ o, Opcode.ofByte b = some o → holdsRecord o = false) {t : State → State}
    (ht : ∀ u : State, u.Lawful → u.port.reserved = none → u.port.named = none → u.Keeps (t u)) :
    s.KeepsLaws (s.riseThrough (b :: bs) t) := by
  unfold State.riseThrough
  split
  case isFalse => exact (State.Keeps.refl h).toKeepsLaws
  case isTrue hc =>
    obtain ⟨hr, hn, k⟩ := State.keeps_carried h hb hc
    dsimp only
    refine (k.trans ?_).closePort hr
    split
    · exact State.Keeps.refl k.lawful
    · exact ht _ k.lawful hr hn

theorem State.keepsLaws_riseWhen {s : State} (h : s.Lawful) {c : Bool} {t : State → State}
    (ht : c = true → s.KeepsLaws (t s).closePort) : s.KeepsLaws (s.riseWhen c t) := by
  unfold State.riseWhen
  split
  · rename_i hc
    rw [Bool.and_eq_true] at hc
    exact ht hc.2
  · exact (State.Keeps.refl h).toKeepsLaws

end Sys2Proof.Machine
end

section
/-!
Every command, and so every step, keeps the laws and the counts: O55 and O56.
-/

namespace Sys2Proof.Machine

/-! ### The arrival of a byte (R183, R185, R186) -/

/-- A stored payload byte is no part of the laws (R29). -/
theorem State.keeps_storePayload {s : State} (h : s.Lawful) (k : Nat) (b : Byte) : s.Keeps (s.storePayload k b) := by
  unfold State.storePayload
  split
  · exact State.Keeps.refl h
  · rename_i r hp
    refine State.keeps_ite _ h fun _ => ?_
    generalize hx : ({ s.record r with payload := (s.record r).payload ++ [b] } : Record) = x
    have hstate : x.state = (s.record r).state := by subst hx; rfl
    have hrec : ∀ i, (s.setRecord r x).record i = if i = r then x else s.record i := fun i => s.record_setRecord r i x
    have hst : ∀ i, ((s.setRecord r x).record i).state = (s.record i).state := fun i => by
      rw [hrec]
      split
      · subst i; exact hstate
      · rfl
    refine ⟨⟨⟨fun i => ?_, h.dispatch.congr (fun _ => rfl) fun i => ?_, h.completion.congr rfl fun i => by rw [hst],
      fun i => by rw [hst]; exact h.reserved i, h.live.keep (s.links_setRecord r x) fun i hi => ⟨by rwa [hst] at hi, ?_⟩,
      h.port.congr rfl rfl rfl fun i hi => by rwa [hst]⟩, fun c => ⟨c.params, fun i => ?_⟩⟩, id⟩
    all_goals rw [hrec]; split
    · subst hx; obtain ⟨h1, h2, h3, h4, h5, h6⟩ := h.shaped r; exact ⟨h1, h2, h3, h4, h5, h6⟩
    · exact h.shaped i
    · subst i; subst hx; exact ⟨.rfl, fun _ => ⟨rfl, rfl, rfl⟩⟩
    · exact Record.SameInQueue.refl _
    · subst i; subst hx; rfl
    · rfl
    · subst hx
      obtain ⟨h1, h2, h3, h4, h5, h6, h7, h8⟩ := c.records r
      exact ⟨h1, h2, h3, h4, h5, h6, h7, h8⟩
    · exact c.records i

theorem State.keeps_clockOut {s : State} (h : s.Lawful) : s.Keeps s.clockOut :=
  State.keeps_port h _ rfl rfl rfl le_rfl rfl rfl

theorem State.keeps_beginChangeByte {s : State} (h : s.Lawful) : s.Keeps s.beginChangeByte := by
  unfold State.beginChangeByte
  split
  · exact State.keeps_ite _ h fun _ => State.keeps_respond h _
  · exact State.Keeps.refl h

theorem State.keeps_excessByte {s : State} (h : s.Lawful) (k : Nat) (b : Byte) : s.Keeps (s.excessByte k b) := by
  unfold State.excessByte
  split
  · have k := State.keeps_storePayload h k b
    exact k.trans (State.keeps_clockOut k.lawful)
  · have k := State.keeps_beginChangeByte h
    exact k.trans (State.keeps_clockOut k.lawful)
  · exact State.keeps_clockOut h

/-- While the port still stores bytes, not all parameter bytes of its instruction have arrived. -/
theorem Port.lt_of_storeRoom {p : Port} (h : p.bytes.length < p.storeRoom) {o : Opcode} (ho : p.op = some o) :
    p.bytes.length < 1 + o.paramCount := by
  unfold Port.storeRoom at h
  split at h
  · rename_i hb
    rw [hb]
    simp only [List.length_nil]
    omega
  · rw [ho] at h; exact h

theorem State.keepsLaws_byteArrives {s : State} (h : s.Lawful) (hopen : s.port.phase = .opened) (b : Byte) :
    s.KeepsLaws (s.byteArrives b) := by
  unfold State.byteArrives
  dsimp only
  split
  case isTrue hroom =>
    obtain ⟨hres, hnam⟩ := h.port_free fun o ho => Port.lt_of_storeRoom hroom ho
    have k := State.keeps_arrival h hres hnam (s.port.bytes ++ [b]) (k := s.port.count + 1)
      (by simpa using h.port.counted)
    split
    · exact k.toKeepsLaws
    · split
      · exact k.toKeepsLaws
      · split
        · exact k.toKeepsLaws.trans (keepsLaws_takeDecision
            ⟨k.lawful, hopen, Bool.eq_false_iff.mpr ‹_›, ‹_›, ‹_›, hres, hnam⟩ _)
        · exact k.toKeepsLaws
  case isFalse =>
    have k := State.keeps_port h { s.port with count := s.port.count + 1 } rfl rfl rfl (Nat.le_succ _) rfl rfl
    split
    · exact k.toKeepsLaws
    · exact (k.trans (State.keeps_excessByte k.lawful _ b)).toKeepsLaws

/-! ### The fall and the rise of CSn (R183, R184) -/

/-- While CSn is high no transaction is open, and the port holds no record (R183). -/
theorem State.Lawful.port_free_of_csn {s : State} (h : s.Lawful) (hc : s.pins.csnHigh = true) :
    s.port.reserved = none ∧ s.port.named = none := by
  have hn : s.port.phase ≠ .opened := fun ho => by
    rw [(h.port.opened ho).2] at hc
    cases hc
  have hh : ¬ (s.port.reserved.isSome = true ∨ s.port.named.isSome = true) := fun hh => hn (h.port.held hh).1
  simpa using hh

theorem keepsLaws_execTransactionStart {s : State} (h : s.Lawful) :
    ∃ t, execTransactionStart s = .next t ∧ s.KeepsLaws t := by
  refine ⟨_, rfl, ?_⟩
  split
  · have hnone := h.none_reserved (h.port_free_of_csn ‹_›).1
    split
    · exact ⟨State.TableLawful.lawful (h.table.congr rfl rfl rfl rfl) hnone rfl rfl (fun _ => ⟨‹_›, rfl⟩) (Nat.le_refl _),
        fun c => c.congr rfl rfl⟩
    · exact ⟨State.TableLawful.lawful (h.table.congr rfl rfl rfl rfl) hnone rfl rfl nofun (Nat.le_refl _),
        fun c => c.congr rfl rfl⟩
  · exact (State.Keeps.refl h).toKeepsLaws

/-- A short transaction, or one without an instruction, holds no record. -/
theorem State.keepsLaws_riseEffect {s : State} (h : s.Lawful) :
    s.KeepsLaws s.riseEffect.closePort := by
  unfold State.riseEffect
  split
  · rename_i hc
    refine (State.Keeps.refl h).closePort ?_
    by_contra hr
    have hres : s.port.reserved.isSome = true := Option.isSome_iff_ne_none.mpr hr
    have hserved := (h.port.held (.inl hres)).2.1
    obtain ⟨-, hlen⟩ := h.port.reserved hres
    rcases Bool.or_eq_true .. ▸ hc with hc | hc
    · rw [List.isEmpty_iff] at hc
      rw [hc] at hlen
      cases hlen
    · rw [Port.not_ignored _ hserved] at hc
      cases hc
  · split
    · rename_i hop
      exact (State.keeps_commandError h).closePort (h.port_free fun o ho => by rw [hop] at ho; cases ho).1
    · rename_i o hop
      split
      · rename_i hs
        refine (State.keeps_commandError h).closePort (h.port_free fun o' ho => ?_).1
        simpa [Port.short, ho] using hs
      · exact keepsLaws_takeRise h hop _

/-- A device that meets CSn low without an open transaction holds no record (R197). -/
theorem keepsLaws_execTransactionEnd {s : State} (h : s.Lawful) :
    ∃ t, execTransactionEnd s = .next t ∧ s.KeepsLaws t := by
  refine ⟨_, rfl, ?_⟩
  split
  · exact (State.Keeps.refl h).toKeepsLaws
  · split
    · exact State.keepsLaws_riseEffect h
    · rename_i hp
      refine (State.Keeps.refl h).closePort ?_
      by_contra hr
      obtain ⟨ho, -⟩ := h.port.held (.inl (Option.isSome_iff_ne_none.mpr hr))
      exact hp (by simp [State.portOpen, ho, (h.port.opened ho).1])

theorem keepsLaws_execReadStationChanges {s : State} (h : s.Lawful) :
    ∃ t, execReadStationChanges s = .next t ∧ s.KeepsLaws t := by
  refine ⟨_, rfl, ?_⟩
  split
  · rename_i hc
    obtain ⟨-, -, k⟩ := State.keeps_carried h (fun o ho => by cases ho; rfl) hc
    dsimp only
    split
    · exact k.toKeepsLaws
    · exact (k.trans (State.keeps_beginChangeByte k.lawful)).toKeepsLaws
  · exact (State.Keeps.refl h).toKeepsLaws

/-! ### The level of RXD (R100, R110) -/

/-- The receiver follows a change of RXD, which touches none of the line's queues and not its link. -/
theorem keepsLaws_execRxdTransition {s : State} (h : s.Lawful) (n : LineNo) :
    ∃ t, execRxdTransition n s = .next t ∧ s.KeepsLaws t := by
  refine ⟨_, rfl, ?_⟩
  split
  · have k : s.Keeps (s.setLine n (if s.pins.rxdMark[n.val] then (s.line n).toSpace else (s.line n).toMark)) := by
      split <;> exact (s.still_setLine n).keeps h
    exact (k.trans (State.keeps_rxd k.lawful _)).toKeepsLaws
  · exact (State.keeps_rxd h _).toKeepsLaws

/-! ### Resets and supply (R22, R197) -/

theorem State.record_powerOn (p : Power) (s : State) (r : RecordIdx) : (s.powerOn p).record r = Record.blank 0 := by
  simp [State.record, State.powerOn, State.reset]

theorem State.line_powerOn (p : Power) (s : State) (n : LineNo) : (s.powerOn p).line n = Line.initial := by
  simp [State.line, State.powerOn, State.reset]

theorem State.entry_powerOn (p : Power) (s : State) (st : StationIdx) : (s.powerOn p).entry st = Entry.initial := by
  simp [State.entry, State.powerOn, State.reset]

/-- The power-on state is lawful, and within the counts (R22, R67, R98). -/
theorem State.keepsLaws_powerOn (p : Power) (s : State) : s.KeepsLaws (s.powerOn p) := by
  have hfree : ∀ r, ((s.powerOn p).record r).state = .free := fun r => by rw [State.record_powerOn]; rfl
  have ht : (s.powerOn p).TableLawful := State.tableLawful_of_free
    (fun r => by rw [State.record_powerOn]; exact Record.shaped_blank 0) hfree
    (fun n => by rw [State.line_powerOn]; rfl) rfl (fun st => by rw [State.entry_powerOn]; simp [Entry.initial])
    (fun n _ => by rw [State.line_powerOn]; rfl)
  refine ⟨ht.lawful (fun r => by rw [hfree]; simp) rfl rfl (fun ho => ?_) (Nat.le_refl _),
    fun _ => ⟨Params.inRange_defaults, fun r => by rw [State.record_powerOn]; exact Record.counted_blank 0⟩⟩
  change (portAtPowerOn s.pins.csnHigh).phase = _ at ho
  unfold portAtPowerOn at ho
  dsimp only at ho
  split at ho <;> cases ho

/-- The device begins to operate, if anything changes at all, while no transaction is open. -/
theorem State.keeps_power {s : State} (h : s.Lawful) (p : Power)
    (hp : s.operating = true → ({ s with power := p } : State).operating = true) :
    s.KeepsLaws { s with power := p } := by
  have ht : State.TableLawful { s with power := p } := h.table.congr rfl rfl rfl rfl
  obtain ⟨hopen, hcount, hheld, hres, hnam, hterm⟩ := h.port
  exact ⟨⟨ht.shaped, ht.dispatch, ht.completion, h.reserved, ht.live,
    ⟨fun ho => ⟨hp (hopen ho).1, (hopen ho).2⟩, hcount, hheld, hres, hnam, hterm⟩⟩, fun c => c.congr rfl rfl⟩

theorem keepsLaws_execPinReset {s : State} (h : s.Lawful) (periods : Nat) :
    ∃ t, execPinReset periods s = .next t ∧ s.KeepsLaws t := by
  refine ⟨_, rfl, ?_⟩
  split
  · exact State.keepsLaws_powerOn _ _
  · split
    · exact (State.Keeps.refl h).toKeepsLaws
    · have k : s.Keeps { s with choices := s.choices + 1 } :=
        State.keeps_of_same h rfl rfl rfl rfl rfl rfl rfl fun c => c.congr rfl rfl
      refine k.toKeepsLaws.trans ?_
      dsimp only
      split
      · exact State.keepsLaws_powerOn _ _
      · exact (State.Keeps.refl k.lawful).toKeepsLaws

/-! ### Every command -/

/-- A command that is taken under a condition, and otherwise changes nothing. -/
theorem keeps_next_ite {s t : State} (c : Prop) [Decidable c] (h : s.Lawful) (k : c → s.Keeps t) :
    ∃ u, (.next (if c then t else s) : Host.Outcome State Fault Refusal) = .next u ∧ s.KeepsLaws u :=
  ⟨_, rfl, (State.keeps_ite c h k).toKeepsLaws⟩

theorem keepsLaws_exec {s : State} (h : s.Lawful) (c : Instr) : ∃ t, exec c s = .next t ∧ s.KeepsLaws t := by
  have harrive : ∀ (o : Opcode) (ps : List Byte) (p : Nat → Byte), ps.length = o.paramCount →
      s.KeepsLaws (s.arriveThrough o ps (takeDecision o p)) := fun o ps p hlen =>
    State.keepsLaws_arriveThrough h hlen fun _ d => keepsLaws_takeDecision d p
  have hset : ∀ number index value, s.KeepsLaws (s.setRise number index value) := fun number index value =>
    State.keepsLaws_riseThrough h (fun o ho => by cases ho; rfl) fun u hu _ _ => State.keeps_writeParameter hu _ _ _
  cases c with
  | transactionStart => exact keepsLaws_execTransactionStart h
  | readStatus => exact ⟨_, rfl, harrive .readStatus [] (fun _ => 0#8) rfl⟩
  | postAdmission h1 h2 h3 h4 =>
    exact ⟨_, rfl, State.keepsLaws_arriveThrough h rfl fun _ d => keepsLaws_takePostAdmission d _ _ _ _⟩
  | postCommit => exact ⟨_, rfl, State.keepsLaws_riseWhen h fun _ => keepsLaws_takePostCommit h⟩
  | cancel index gen => exact ⟨_, rfl, harrive .cancel [index, gen] (fun i => [index, gen].getD i 0#8) rfl⟩
  | collect index gen => exact ⟨_, rfl, harrive .collect [index, gen] (fun i => [index, gen].getD i 0#8) rfl⟩
  | collectNext => exact ⟨_, rfl, harrive .collectNext [] (fun _ => 0#8) rfl⟩
  | collection =>
    refine ⟨_, rfl, State.keepsLaws_riseWhen h fun hc => keepsLaws_takeCollection h fun hop => ?_⟩
    simp [Port.summaryClocked, hop] at hc
  | readRecord index gen => exact ⟨_, rfl, harrive .readRecord [index, gen] (fun i => [index, gen].getD i 0#8) rfl⟩
  | readStation b => exact ⟨_, rfl, harrive .readStation [b] (fun _ => b) rfl⟩
  | readStationChanges => exact keepsLaws_execReadStationChanges h
  | stationChangesClear =>
    refine ⟨_, rfl, State.keepsLaws_riseWhen h fun hc => ?_⟩
    exact (keeps_takeStationChangesClear h).closePort (h.reserved_none_of_op (by rw [beq_iff_eq] at hc; rw [hc]; simp))
  | enableStation b => exact ⟨_, rfl, harrive .enableStation [b] (fun _ => b) rfl⟩
  | disableStation b => exact ⟨_, rfl, harrive .disableStation [b] (fun _ => b) rfl⟩
  | ackAttention b => exact ⟨_, rfl, harrive .ackAttention [b] (fun _ => b) rfl⟩
  | attentionAcknowledge =>
    refine ⟨_, rfl, State.keepsLaws_riseWhen h fun hc => (keeps_takeAcknowledge h).closePort (h.reserved_none_of_op ?_)⟩
    intro hop
    simp [Port.ackReady, hop] at hc
  | readLine b => exact ⟨_, rfl, harrive .readLine [b] (fun _ => b) rfl⟩
  | quiesceFinishedClear =>
    refine ⟨_, rfl, State.keepsLaws_riseWhen h fun hc => (keeps_takeFinishedClear h).closePort (h.reserved_none_of_op ?_)⟩
    intro hop
    simp [Port.finishedReported, hop] at hc
  | quiesceLine b => exact ⟨_, rfl, harrive .quiesceLine [b] (fun _ => b) rfl⟩
  | resumeLine b => exact ⟨_, rfl, harrive .resumeLine [b] (fun _ => b) rfl⟩
  | lineReset b =>
    exact ⟨_, rfl, State.keepsLaws_riseThrough h (fun o ho => by cases ho; rfl) fun u hu _ _ => keeps_takeLineReset hu b⟩
  | lineResetAct n => exact keeps_next_ite _ h fun _ => State.keeps_txEnd h n
  | setParameter number index value => exact ⟨_, rfl, hset _ _ _⟩
  | lineEnableOn n => exact ⟨_, rfl, hset _ _ _⟩
  | lineEnableOff n => exact ⟨_, rfl, hset _ _ _⟩
  | setLineRate n v => exact ⟨_, rfl, hset _ _ _⟩
  | setWindowLimit n v => exact ⟨_, rfl, hset _ _ _⟩
  | setTickDivider v => exact ⟨_, rfl, hset _ _ _⟩
  | setUrgentReserve v => exact ⟨_, rfl, hset _ _ _⟩
  | setCoalesceCount v => exact ⟨_, rfl, hset _ _ _⟩
  | setNoteEnable v => exact ⟨_, rfl, hset _ _ _⟩
  | setErrorClass b v => exact ⟨_, rfl, hset _ _ _⟩
  | setFaultEnable b v => exact ⟨_, rfl, hset _ _ _⟩
  | readParameter number index =>
    exact ⟨_, rfl, harrive .readParameter [number, index] (fun i => [number, index].getD i 0#8) rfl⟩
  | readErrors => exact ⟨_, rfl, harrive .readErrors [] (fun _ => 0#8) rfl⟩
  | clearErrors =>
    exact ⟨_, rfl, State.keepsLaws_riseThrough h (fun o ho => by cases ho; rfl) fun u hu _ _ => keeps_takeClearErrors hu⟩
  | softReset =>
    exact ⟨_, rfl, State.keepsLaws_riseThrough h (fun o ho => by cases ho; rfl) fun u hu hr hn =>
      keeps_takeSoftReset hu hr hn⟩
  | resetPeriodEnd =>
    refine keeps_next_ite _ h fun _ => ?_
    split
    · exact State.keeps_endPeriod h
    · exact State.keeps_txEnd h _
    · exact State.Keeps.refl h
  | unknownOpcode b =>
    refine ⟨_, rfl, ?_⟩
    split
    · rename_i hb
      exact State.keepsLaws_riseThrough h (fun o ho => by rw [ho] at hb; cases hb) fun u hu _ _ =>
        State.keeps_commandError hu
    · exact (State.Keeps.refl h).toKeepsLaws
  | shortInstruction =>
    refine ⟨_, rfl, State.keepsLaws_riseWhen h fun _ => ?_⟩
    unfold takeShort
    split
    · rename_i hs
      refine (State.keeps_commandError h).closePort (h.port_free fun o ho => ?_).1
      simpa [Port.short, ho] using hs
    · exact keepsLaws_takePostCommit h
  | pinReset periods => exact keepsLaws_execPinReset h periods
  | resetnRelease =>
    refine ⟨_, rfl, ?_⟩
    split
    · refine State.keeps_power h _ fun ho => ?_
      simp_all [State.operating]
    · exact (State.Keeps.refl h).toKeepsLaws
  | powerOnReset => exact ⟨_, rfl, State.keepsLaws_powerOn _ s⟩
  | tick => exact keeps_next_ite _ h fun _ => State.keeps_of_same h rfl rfl rfl rfl rfl rfl rfl fun c => c.congr rfl rfl
  | linkUp n => exact keeps_next_ite _ h fun _ => State.keeps_linkUp h n
  | linkDown n => exact keeps_next_ite _ h fun _ => State.keeps_linkDown h n
  | reply n f => exact ⟨_, rfl, (State.keeps_receiveFrame h _ n f fun _ hu _ => keeps_takeReply hu n f).toKeepsLaws⟩
  | holdoff n f => exact ⟨_, rfl, (State.keeps_receiveFrame h _ n f fun _ hu _ => keeps_takeHoldoff hu n f).toKeepsLaws⟩
  | probeAnswer n f =>
    exact ⟨_, rfl, (State.keeps_receiveFrame h _ n f fun _ hu hn => keeps_takeProbeAnswer hu hn f).toKeepsLaws⟩
  | attention n f =>
    exact ⟨_, rfl, (State.keeps_receiveFrame h _ n f fun _ hu _ => keeps_takeAttention hu n f).toKeepsLaws⟩
  | quiesceAck n f =>
    exact ⟨_, rfl, (State.keeps_receiveFrame h _ n f fun _ hu _ => keeps_takeQuiesceAck hu n f).toKeepsLaws⟩
  | charError n => exact keeps_next_ite _ h fun _ => State.keeps_badCharacter h n
  | formatError n h1 h2 h3 h4 =>
    exact keeps_next_ite _ h fun _ => (State.keeps_charTaken h n _ _).still (State.still_report _ _)
  | checkError n h1 h2 h3 h4 payload c1 c2 =>
    exact keeps_next_ite _ h fun _ => (State.keeps_charTaken h n _ _).still (State.still_report _ _)
  | receiveGapExpiry n => exact keeps_next_ite _ h fun _ => State.keeps_gapExpiry h n
  | discardIdleEnd n => exact keeps_next_ite _ h fun _ => (s.still_setLine n).keeps h
  | transmitEnd n => exact keeps_next_ite _ h fun _ => State.keeps_transmitEnd h n
  | stoppingEnd n => exact keeps_next_ite _ h fun _ => State.keeps_stoppingEnd h n
  | replyDeadlineExpiry r =>
    refine keeps_next_ite _ h fun hc => State.keeps_replyExpiry h ?_
    simp only [Bool.and_eq_true, beq_iff_eq] at hc
    exact hc.1.2
  | segmentDeadlineExpiry r =>
    refine keeps_next_ite _ h fun hc => State.keeps_segmentExpiry h ?_
    simp only [Bool.and_eq_true, beq_iff_eq] at hc
    exact hc.1.2
  | holdoffDeadlineExpiry r =>
    refine keeps_next_ite _ h fun hc => State.keeps_holdoffExpiry h ?_ _
    simp only [Bool.and_eq_true, beq_iff_eq] at hc
    exact hc.1.2
  | fenceExpiry st =>
    exact keeps_next_ite _ h fun _ => State.Keeps.choose ((s.still_setEntry st).keeps h) _
  | probeDue st =>
    exact keeps_next_ite _ h fun _ => State.Keeps.choose (State.Keeps.probeSweep ((s.still_setEntry st).keeps h) _) _
  | idleTimerExpiry => exact keeps_next_ite _ h fun _ => State.keeps_signal h _ _
  | quiesceDeadlineExpiry n => exact keeps_next_ite _ h fun _ => State.keeps_quiesceExpiry h n
  | byteArrival b =>
    refine ⟨_, rfl, ?_⟩
    split
    · rename_i hp
      simp only [State.portOpen, Bool.and_eq_true, beq_iff_eq] at hp
      exact State.keepsLaws_byteArrives h hp.2 b
    · exact (State.Keeps.refl h).toKeepsLaws
  | transactionEnd => exact keepsLaws_execTransactionEnd h
  | goodCharacter n b =>
    refine keeps_next_ite _ h fun hc => State.keeps_goodCharacter h ?_ b
    simp only [State.forming, Bool.and_eq_true, beq_iff_eq] at hc
    exact hc.2
  | rxdTransition n => exact keepsLaws_execRxdTransition h n
  | refclkLoss cause => exact ⟨_, rfl, State.keepsLaws_powerOn _ s⟩
  | refclkReturn =>
    refine ⟨_, rfl, ?_⟩
    split
    · exact (State.Keeps.refl h).toKeepsLaws
    · refine State.keeps_power h _ fun ho => ?_
      simp_all [State.operating]

/-! ### The step (R118, R189) -/

theorem State.keeps_clockPeriod {s : State} (h : s.Lawful) : s.Keeps s.clockPeriod := by
  unfold State.clockPeriod
  refine State.keeps_ite _ h fun _ => ?_
  have k := s.still_period.keeps h
  exact k.trans (State.keeps_of_same k.lawful rfl rfl rfl rfl rfl rfl rfl fun c => c.congr rfl rfl)

/-- A step gives the effect of a command, or lets one period pass. -/
theorem keepsLaws_step {s t : State} (h : s.Lawful) (hs : step s = .next t) : s.KeepsLaws t := by
  have hexec : ∀ {u : State}, s.Keeps u → ∀ {c : Instr}, exec c u = .next t → s.KeepsLaws t := by
    intro u k c hc
    obtain ⟨v, hv, kv⟩ := keepsLaws_exec k.lawful c
    obtain rfl : v = t := by rw [hc] at hv; cases hv; rfl
    exact k.toKeepsLaws.trans kv
  unfold step at hs
  split at hs
  · rename_i c cs _
    exact hexec (State.keeps_of_same h (t := { s with pending := cs }) rfl rfl rfl rfl rfl rfl rfl fun c => c.congr rfl rfl)
      hs
  · unfold State.idleStep at hs
    split at hs
    · cases hs
      exact (State.keeps_clockPeriod h).toKeepsLaws
    · exact hexec (State.Keeps.refl h) hs
    · exact hexec (State.keeps_of_same h (t := { s with choices := s.choices + 1 }) rfl rfl rfl rfl rfl rfl rfl
        fun c => c.congr rfl rfl) hs

/-- Settles O55: every command keeps the laws, by the lemma of its operation. -/
theorem lawfulKept : Obligations.LawfulKept := by
  intro s t h hs
  exact (keepsLaws_step h hs).lawful

/-- Settles O56: a record's counts change only as `Record.Move` has it, and a write passes the checks of R192. -/
theorem recordCountsKept : Obligations.RecordCountsKept := by
  intro s t h hp hr hs
  have c := (keepsLaws_step h hs).counts ⟨hp, hr⟩
  exact ⟨c.params, c.records⟩

end Sys2Proof.Machine
end

section
/-!
The statements about the life of an exchange: O12, O14, O15, O17, O19, O20, O41, O3.
-/

namespace Sys2Proof.Machine

/-! ### Admission (R9, R27) -/

/-- The FREE record of lowest index is the one that the search finds (R9). -/
theorem State.lowestFree_eq {s : State} {r : RecordIdx} (hr : (s.record r).state = .free)
    (hlow : ∀ i, i < r → (s.record i).state ≠ .free) : s.lowestFree = some r := by
  obtain ⟨i, hi⟩ : ∃ i, s.lowestFree = some i :=
    Option.isSome_iff_exists.mp (List.find?_isSome.mpr ⟨r, List.mem_finRange r, by simpa using hr⟩)
  have hfree := State.lowestFree_free hi
  have hnot : ∀ j, j < i → (s.record j).state ≠ .free := by
    obtain ⟨-, as, bs, hsplit, has⟩ := List.find?_eq_some_iff_append.mp hi
    intro j hj hjf
    have hp := hsplit ▸ List.pairwise_lt_finRange 48
    have hmem : j ∈ as ++ i :: bs := hsplit ▸ List.mem_finRange j
    rw [List.pairwise_append, List.pairwise_cons] at hp
    rcases List.mem_append.mp hmem with hm | hm
    · have := has j hm
      simp [hjf] at this
    · rcases List.mem_cons.mp hm with rfl | hm
      · exact absurd hj (lt_irrefl _)
      · exact absurd hj (lt_asymm (hp.2.1.1 j hm))
  rcases lt_trichotomy i r with h | h | h
  · exact absurd hfree (hlow i h)
  · rw [hi, h]
  · exact absurd hr (hnot r h)

/-- A POST with a good header for a PRESENT station of an OPEN, UP line with a record for it is not refused (R27). -/
theorem State.admissionRefusal_none {s : State} {h : PostHeader} (hl : (s.line (lineOf h.station)).link = .up)
    (hs : (s.line (lineOf h.station)).service = .opened) (he : (s.entry h.station).state = .present)
    (hf : match h.priority with
      | .normal => s.params.urgentReserve < s.freeCount
      | .urgent => 0 < s.freeCount) : s.admissionRefusal h = none := by
  unfold State.admissionRefusal
  simp only [hl, hs, he, ne_eq, not_true_eq_false, if_false]
  cases hp : h.priority with
  | normal => rw [hp] at hf; simp [Nat.not_le.mpr hf]
  | urgent => rw [hp] at hf; simp [Nat.pos_iff_ne_zero.mp hf]

/-- Settles O12: the checks of R27 pass, so the record that the search of R9 finds is reserved. -/
theorem postAccepted : Obligations.PostAccepted := by
  intro s h1 h2 h3 h4 h r ha hp hl hs he hf hr hlow
  have hadm : (s.arrived [0xA4#8, h1, h2, h3, h4]).admissionRefusal h = none :=
    State.admissionRefusal_none (s := s.arrived _) hl hs he hf
  have hfree : (s.arrived [0xA4#8, h1, h2, h3, h4]).lowestFree = some r :=
    State.lowestFree_eq (s := s.arrived _) hr hlow
  show Host.Outcome.next (s.arriveThrough .post [h1, h2, h3, h4] _) = _
  rw [State.arriveThrough_eq _ ha]
  simp only [takePostAdmission, hp]
  simp only [Opcode.code, hadm, hfree]
  simp only [State.reserve, State.record_setRecord_self]
  rfl

/-! ### Commit and truncation (R10, R31, R32) -/

/-- The bytes of a served transaction, once all of them have arrived. -/
theorem State.Serving.bytes_eq {s : State} {bs : List Byte} (h : s.Serving bs) (hc : bs.length ≤ s.port.count) :
    s.port.bytes = bs := by
  rw [h.bytes, List.take_of_length_le hc]

/-- Settles O14: the record commits by the link first and the station second, or is freed and reported. -/
theorem postSettles : Obligations.PostSettles := by
  intro s ps r hs hlen hcount hr
  have hb : s.port.bytes = 0xA4#8 :: ps := hs.bytes_eq (by simpa [hlen] using hcount)
  have hop : s.port.op = some .post := by rw [Port.op, hb]; rfl
  have hreq : s.port.postRequired = 7 + (ps.getD 3 0#8).toNat := by
    simp only [Port.postRequired, Port.param, Port.params, hb, List.drop_one, List.tail_cons]
  have hshort : s.port.short = false := by simp [Port.short, hop, hb, hlen, Opcode.paramCount]
  have hcommit : exec .postCommit s = .next (takePostCommit s).closePort :=
    congrArg _ (State.riseWhen_eq _ hs.portOpen hs.served (by rw [hop, hr]; rfl))
  rw [hcommit]
  simp only [takePostCommit, hr, hreq]
  refine ⟨fun hle => ?_, fun hlt => ?_⟩
  · simp only [if_pos hle, State.commitRecord]
    refine ⟨fun hup hst => ?_, fun hup => ?_, fun hup hst => ?_⟩
    · simp [hup, hst]
    · simp [hup]
    · simp [hup, hst]
  · rw [if_neg (Nat.not_le.mpr hlt)]
    refine ⟨?_, ?_⟩
    · simp only [State.commandError, State.freeRecord, State.setRecord_port, hb]
      rfl
    · have hends : s.port.endsShort = true := by
        rw [Port.endsShort, hop, hr, hreq, decide_eq_true hlt]
        simp
      refine congrArg _ ((State.riseWhen_eq _ hs.portOpen hs.served hends).trans ?_)
      simp only [takeShort, hshort, takePostCommit, hr, hreq, if_neg (Nat.not_le.mpr hlt)]
      rfl

/-! ### Places in the dispatch queue (R84) -/

theorem takeWhile_dropWhile_append {α : Type} {p : α → Bool} {us ns : List α} (hu : ∀ a ∈ us, p a = true)
    (hn : ∀ a ∈ ns, p a = false) : (us ++ ns).takeWhile p = us ∧ (us ++ ns).dropWhile p = ns := by
  rw [List.takeWhile_append_of_pos hu, List.dropWhile_append_of_pos hu]
  cases ns with
  | nil => simp
  | cons a ns => simp [hn a List.mem_cons_self]

theorem State.urgentHandle_iff (s : State) (h : Handle) :
    s.urgentHandle h = true ↔ (s.record h.index).priority = .urgent := by
  simp [State.urgentHandle, State.isUrgent]

/-- Settles O15: the URGENT part of the queue is what `takeWhile` takes, and the places follow. -/
theorem placeInDispatchQueue : Obligations.PlaceInDispatchQueue := by
  intro s r us ns hq hu hn
  obtain ⟨htake, hdrop⟩ := takeWhile_dropWhile_append (p := s.urgentHandle) (us := us) (ns := ns)
    (fun h hh => (s.urgentHandle_iff h).mpr (hu h hh).1)
    (fun h hh => by simp [State.urgentHandle, State.isUrgent, (hn h hh).1])
  have htail : ((s.queueAtTail r).line (s.record r).line).dispatchQ =
      if s.isUrgent r = true then us ++ s.handleOf r :: ns else us ++ ns ++ [s.handleOf r] := by
    rw [State.line_queueAtTail, if_pos rfl]
    simp only [State.atClassTail, State.urgentHandle_requeued, State.isUrgent_requeued, hq, htake, hdrop, State.handleOf]
  have hhead : ((s.queueAtHead r).line (s.record r).line).dispatchQ =
      if s.isUrgent r = true then s.handleOf r :: (us ++ ns) else us ++ s.handleOf r :: ns := by
    rw [State.line_queueAtHead, if_pos rfl]
    simp only [State.atClassHead, State.urgentHandle_requeued, State.isUrgent_requeued, hq, htake, hdrop, State.handleOf]
  refine ⟨fun hp => ?_, fun hp => ?_, fun t ht => ?_⟩
  · have hurg : s.isUrgent r = true := by simp [State.isUrgent, hp]
    rw [htail, hhead, if_pos hurg, if_pos hurg]
    exact ⟨rfl, rfl⟩
  · have hurg : ¬ s.isUrgent r = true := by simp [State.isUrgent, hp]
    rw [htail, hhead, if_neg hurg, if_neg hurg, List.append_assoc]
    exact ⟨rfl, rfl⟩
  · rcases ht with rfl | rfl
    · refine ⟨?_, fun i hi => ?_, ?_, fun m hm => ?_, rfl⟩
      · rw [State.record_queueAtTail, if_pos rfl]; rfl
      · rw [State.record_queueAtTail, if_neg hi]
      · rw [State.line_queueAtTail, if_pos rfl]
      · rw [State.line_queueAtTail, if_neg hm]
    · refine ⟨?_, fun i hi => ?_, ?_, fun m hm => ?_, rfl⟩
      · rw [State.record_queueAtHead, if_pos rfl]; rfl
      · rw [State.record_queueAtHead, if_neg hi]
      · rw [State.line_queueAtHead, if_pos rfl]
      · rw [State.line_queueAtHead, if_neg hm]

/-! ### What ends records (R15, R72, R73) -/

/-- The fence places that an event which ends records leaves (R72, R73). -/
theorem State.fence_endAll (o : ExchOutcome) (f : Bool) {rs : List RecordIdx} (hn : rs.Nodup) (s : State)
    (st : StationIdx) (q : SeqNo) :
    ((s.endAll o f rs).entry st).fence[q.val] =
      if f = true ∧ ∃ r ∈ rs, (s.record r).station = st ∧ (s.record r).seq = some q then
        some (s.after s.params.quarantineInterval)
      else (s.entry st).fence[q.val] := by
  induction rs generalizing s with
  | nil => simp [State.endAll]
  | cons r rs ih =>
    obtain ⟨hr, hn⟩ := List.nodup_cons.mp hn
    have hrec : ∀ i ∈ rs, (s.endOne o f r).record i = s.record i := fun i hi => by
      rw [State.record_endOne, if_neg (ne_of_mem_of_not_mem hi hr)]
    have hrest := (s.quiet_endOne o f r).rest
    have hafter : (s.endOne o f r).after (s.endOne o f r).params.quarantineInterval =
        s.after s.params.quarantineInterval := by
      rw [State.after, hrest.tick, hrest.params, State.after]
    have hone : ((s.endOne o f r).entry st).fence[q.val] =
        if f = true ∧ (s.record r).station = st ∧ (s.record r).seq = some q then
          some (s.after s.params.quarantineInterval)
        else (s.entry st).fence[q.val] := by
      rw [State.entry_endOne]
      cases hq : (s.record r).seq with
      | none => simp
      | some q' =>
        dsimp only
        split
        case isTrue hc =>
          obtain ⟨rfl, rfl⟩ := hc
          simp [Vector.getElem_set, Fin.ext_iff]
        case isFalse hc =>
          refine (if_neg ?_).symm
          rintro ⟨hf, hst, -⟩
          exact hc ⟨hf, hst.symm⟩
    show (((s.endOne o f r).endAll o f rs).entry st).fence[q.val] = _
    rw [ih hn, hafter, hone]
    have hex : (∃ i ∈ rs, ((s.endOne o f r).record i).station = st ∧ ((s.endOne o f r).record i).seq = some q) ↔
        ∃ i ∈ rs, (s.record i).station = st ∧ (s.record i).seq = some q :=
      exists_congr fun i => and_congr_right fun hi => by rw [hrec i hi]
    simp only [hex, List.mem_cons, exists_eq_or_imp]
    by_cases h1 : f = true ∧ ∃ i ∈ rs, (s.record i).station = st ∧ (s.record i).seq = some q
    · rw [if_pos h1, if_pos ⟨h1.1, .inr h1.2⟩]
    · rw [if_neg h1]
      by_cases h2 : f = true ∧ (s.record r).station = st ∧ (s.record r).seq = some q
      · rw [if_pos h2, if_pos ⟨h2.1, .inl h2.2⟩]
      · rw [if_neg h2, if_neg]
        rintro ⟨hf, h3 | h3⟩
        · exact h2 ⟨hf, h3⟩
        · exact h1 ⟨hf, h3⟩

theorem State.fence_endRecords (o : ExchOutcome) (f : Bool) {rs : List RecordIdx} (hn : rs.Nodup) (s : State)
    (st : StationIdx) (q : SeqNo) :
    ((s.endRecords o f rs).entry st).fence[q.val] =
      if f = true ∧ ∃ r ∈ rs, (s.record r).station = st ∧ (s.record r).seq = some q then
        some (s.after s.params.quarantineInterval)
      else (s.entry st).fence[q.val] := by
  simp only [State.endRecords_eq, State.entry_congr (State.enterCompletion_stations rs _)]
  exact State.fence_endAll o f hn s st q

/-- C and the idle timer when records enter the completion queue (R149, R150). -/
theorem State.enterCompletion_signal (s : State) {rs : List RecordIdx} (h : rs ≠ []) :
    (s.enterCompletion rs).signalC = (s.signalC || decide (s.params.coalesceCount ≤ (s.completionQ ++ rs).length)
      || rs.any s.isUrgent) ∧ (s.enterCompletion rs).idleTimer = s.idleRestart := by
  cases rs with
  | nil => exact absurd rfl h
  | cons r rs => exact ⟨rfl, rfl⟩

/-- Ending a record keeps its priority. -/
theorem State.isUrgent_endAll (o : ExchOutcome) (f : Bool) (rs : List RecordIdx) (s : State) (r : RecordIdx) :
    (s.endAll o f rs).isUrgent r = s.isUrgent r := by
  unfold State.isUrgent
  by_cases h : r ∈ rs
  · rw [State.endAll_record_of_mem o f rs s h]; rfl
  · rw [State.endAll_record_of_not_mem o f rs s h]

theorem State.endRecords_signal (s : State) (o : ExchOutcome) (f : Bool) {rs : List RecordIdx} (h : rs ≠ []) :
    (s.endRecords o f rs).signalC = (s.signalC || decide (s.params.coalesceCount ≤ (s.completionQ ++ rs).length)
      || rs.any s.isUrgent) ∧ (s.endRecords o f rs).idleTimer = s.idleRestart := by
  have hq := s.quiet_endAll o f rs
  obtain ⟨h1, h2⟩ := (s.endAll o f rs).enterCompletion_signal h
  rw [State.endRecords_eq, h1, h2, hq.signalC, hq.rest.params, hq.completionQ, State.idleRestart, State.after,
    hq.rest.params, hq.rest.tick]
  exact ⟨by rw [funext (s.isUrgent_endAll o f rs)], rfl⟩

/-- A state of which all but some parts are known to be those of another. -/
theorem State.eq_of_rest {s t : State} (h : s.Rest t) (hf : t.faults = s.faults) :
    t = { s with
      records := t.records, stations := t.stations, lines := t.lines, completionQ := t.completionQ
      signalC := t.signalC, idleTimer := t.idleTimer } := by
  obtain ⟨h1, h2, h3, h4, h5, h6, h7, h8, h9, h10⟩ := h
  cases t
  simp only at *
  subst h1 h2 h3 h4 h5 h6 h7 h8 h9 h10 hf
  rfl

/-- Settles O17: the parts of the state after the event, each by its lemma. -/
theorem endingRecords : Obligations.EndingRecords := by
  refine ⟨fun s o f rs hn hne => ?_, fun s p => ⟨s.liveWhere_ascending p, s.mem_liveWhere p⟩, fun s o f => rfl,
    RecState.live_iff⟩
  obtain ⟨hsig, hidle⟩ := s.endRecords_signal o f hne
  refine ⟨fun r hr => ?_, fun r hr => ?_, s.endRecords_queue o f rs, hsig, hidle,
    s.line_endRecords o f rs, fun st q => s.fence_endRecords o f hn st q, s.entry_endRecords o f rs,
    State.eq_of_rest (s.rest_endRecords o f rs) (s.endRecords_faults o f rs)⟩
  · rw [State.record_endRecords, if_pos hr]; rfl
  · rw [State.record_endRecords, if_neg hr]

end Sys2Proof.Machine
end

section
/-!
The statements about collections, readings, stations, frames and deadlines: O19, O20, O23, O41, O52, O2, O3.
-/

namespace Sys2Proof.Machine

/-! ### Collection (R146, R151) -/

/-- The three rows of R151. -/
theorem State.afterCollection_rows (s : State) :
    (s.completionQ = [] → s.afterCollection = { s with signalC := false, idleTimer := none }) ∧
    (s.completionQ ≠ [] → s.signalDue = true → s.afterCollection = s) ∧
    (s.completionQ ≠ [] → s.signalDue = false →
      s.afterCollection = { s with signalC := false, idleTimer := s.idleRestart }) := by
  unfold State.afterCollection
  refine ⟨fun h => if_pos h, fun h hd => ?_, fun h hd => ?_⟩
  · rw [if_neg h, if_pos hd]
  · rw [if_neg h, if_neg (by rw [hd]; simp)]

theorem State.signalDue_iff (s : State) : s.signalDue = true ↔
    s.params.coalesceCount ≤ s.completionQ.length ∨ ∃ q ∈ s.completionQ, (s.record q).priority = .urgent := by
  simp [State.signalDue, State.isUrgent]

/-- The queue without the record, whose priorities are those before the freeing. -/
theorem State.collected_signalDue (s : State) (r : RecordIdx) :
    ({ s.freeRecord r with completionQ := s.completionQ.filter (fun q => q != r) } : State).signalDue = true ↔
      s.params.coalesceCount ≤ (s.completionQ.filter (fun q => q != r)).length ∨
        ∃ q ∈ s.completionQ.filter (fun q => q != r), (s.record q).priority = .urgent := by
  rw [State.signalDue_iff]
  refine or_congr .rfl (exists_congr fun q => and_congr_right fun hq => ?_)
  have hne : q ≠ r := by simpa using (List.mem_filter.mp hq).2
  show ((s.freeRecord r).record q).priority = _ ↔ _
  rw [State.record_freeRecord, if_neg hne]

/-- Settles O19: the freeing, and the row of R151 that the queue without the record calls for. -/
theorem collectionFrees : Obligations.CollectionFrees := by
  intro s bs r hs hn hop
  have hrecs : ∀ i, (s.freeRecord r).record i = if i = r then Record.blank ((s.record r).gen + 1) else s.record i :=
    s.record_freeRecord r
  refine ⟨fun hclocked => ?_, fun hclocked hshort hcsn => ?_⟩
  · have hsum : s.port.summaryClocked = true := by
      rcases hop with h | h <;> simp [Port.summaryClocked, h, hn, hclocked]
    have hexec : exec .collection s = .next (s.collectRecord r).closePort := by
      refine congrArg _ ((State.riseWhen_eq _ hs.portOpen hs.served hsum).trans ?_)
      simp only [takeCollection, hn, if_pos hclocked]
    obtain ⟨hempty, hdue, hnot⟩ :=
      State.afterCollection_rows { s.freeRecord r with completionQ := s.completionQ.filter (fun q => q != r) }
    have hiff := s.collected_signalDue r
    have hcoll : s.collectRecord r = State.afterCollection
      { s.freeRecord r with completionQ := s.completionQ.filter (fun q => q != r) } := rfl
    generalize hu : ({ s.freeRecord r with completionQ := s.completionQ.filter (fun q => q != r) } : State) = u at *
    obtain ⟨h1, h2, h3, h4, -⟩ := u.afterCollection_same
    have hq : u.completionQ = s.completionQ.filter (fun q => q != r) := by subst hu; rfl
    have hrec : ∀ i, u.afterCollection.record i = (s.freeRecord r).record i := fun i =>
      (State.record_congr h1 i).trans (by subst hu; rfl)
    have hrest : u.afterCollection.faults = s.faults ∧ u.afterCollection.params = s.params ∧
        u.afterCollection.tick = s.tick := by
      subst hu
      unfold State.afterCollection
      split
      · exact ⟨rfl, rfl, rfl⟩
      · split <;> exact ⟨rfl, rfl, rfl⟩
    refine ⟨_, hexec, ?_⟩
    rw [hcoll]
    refine ⟨?_, fun i hi => ?_, h4.trans hq, fun he => ?_, fun he hc => ?_, fun he hlt hnorm => ?_,
      h2.trans (by subst hu; rfl), h3.trans (by subst hu; rfl), hrest⟩
    · exact (hrec r).trans ((hrecs r).trans (if_pos rfl))
    · exact (hrec i).trans ((hrecs i).trans (if_neg hi))
    · have hr : u.afterCollection = _ := hempty (h4 ▸ he)
      exact ⟨congrArg State.signalC hr, congrArg State.idleTimer hr⟩
    · have hr : u.afterCollection = u := hdue (h4 ▸ he) (hiff.mpr (h4.trans hq ▸ hc))
      refine ⟨(congrArg State.signalC hr).trans ?_, (congrArg State.idleTimer hr).trans ?_⟩ <;> subst hu <;> rfl
    · have hfalse : u.signalDue = false := by
        rw [Bool.eq_false_iff, Ne, hiff]
        rintro (hle | ⟨q, hm, hp⟩)
        · exact absurd hle (Nat.not_le.mpr (by rw [← hq, ← h4]; exact hlt))
        · rw [hnorm q (by rw [← hq, ← h4] at hm; exact hm)] at hp
          cases hp
      have hr : u.afterCollection = _ := hnot (h4 ▸ he) hfalse
      refine ⟨congrArg State.signalC hr, (congrArg State.idleTimer hr).trans ?_⟩
      subst hu
      rfl
  · have hrise : s.riseEffect = s := by
      have hserved := Port.not_ignored _ hs.served
      have htake : takeCollection s = s := by simp only [takeCollection, hn, if_neg (Nat.not_le.mpr hclocked)]
      rcases hop with h | h
      all_goals
        have hne : s.port.bytes.isEmpty = false := by
          cases hb : s.port.bytes with
          | nil => rw [Port.op, hb] at h; cases h
          | cons b bs => rfl
        simp only [State.riseEffect, hne, hserved, h, hshort, Bool.or_self]
        exact htake
    show Host.Outcome.next _ = _
    rw [if_neg (by rw [hcsn]; simp), if_pos hs.portOpen, hrise]

/-! ### How a handle resolves, and READ RECORD (R18, R148) -/

theorem State.resolve_outOfRange (s : State) {a b : Byte} (h : 47 < a.toNat ∨ 15 < b.toNat) :
    s.resolve a b = .outOfRange := by
  unfold State.resolve
  split
  · rw [if_neg (by omega)]
  · rfl

theorem State.resolve_of_index (s : State) {a b : Byte} {r : RecordIdx} (ha : a.toNat = r.val) (hb : b.toNat ≤ 15) :
    s.resolve a b =
      if (s.record r).gen.val = b.toNat ∧ (s.record r).state ≠ .free then .current r else .stale := by
  have hr : ∀ h : a.toNat < 48, (⟨a.toNat, h⟩ : RecordIdx) = r := fun h => Fin.ext ha
  unfold State.resolve
  rw [dif_pos (ha ▸ r.isLt), if_pos (by omega)]
  simp only [hr]

/-- The option fields of READ RECORD as the statement writes them (R201). -/
theorem State.recordResponse_eq (s : State) (r : RecordIdx) : s.recordResponse r =
    0#8 :: (s.record r).state.code :: (summaryBytes r (s.record r) ++ countBytes (s.record r) ++
      [byteOf (s.record r).station.val,
        byteOf ((if (s.record r).priority = .urgent then 128 else 0) + (s.record r).opClass.val),
        byteOf ((s.record r).retryBudget * 16 + (s.record r).deadlineClass.val),
        byteOf (s.record r).payload.length,
        ((s.record r).seq.map (fun q => byteOf q.val)).getD 0xFF#8,
        ((s.record r).deadline.map (fun d => d.kind.code)).getD 0xFF#8,
        ((s.record r).deadline.map (fun d => highByte (s.remaining d.expiry))).getD 0#8,
        ((s.record r).deadline.map (fun d => lowByte (s.remaining d.expiry))).getD 0#8,
        byteOf (s.record r).segments] ++ (s.record r).reply) := by
  unfold State.recordResponse priorityByte budgetByte bitValue
  dsimp only
  cases (s.record r).seq <;> cases (s.record r).deadline <;> cases (s.record r).priority <;> rfl

/-- Settles O20: the codes by evaluation, the response by `State.recordResponse_eq`. -/
theorem readRecordReports : Obligations.ReadRecordReports := by
  refine ⟨fun s a b => ⟨s.resolve_outOfRange, fun r ha hb => ⟨fun hg hs => ?_, fun hg => ?_⟩⟩, by decide, by decide,
    fun r x => ⟨fun ho => ?_, rfl⟩, fun s e => ⟨fun h => if_pos h, fun h => if_neg (by rw [h]; simp)⟩,
    fun s a b ha => ?_⟩
  · rw [s.resolve_of_index ha hb, if_pos ⟨hg, hs⟩]
  · rw [s.resolve_of_index ha hb, if_neg]
    rintro ⟨h1, h2⟩
    rcases hg with hg | hg
    · exact hg h1
    · exact h2 hg
  · simp only [summaryBytes, ho]; rfl
  · have hexec : exec (.readRecord a b) s = .next (takeReadRecord a b (s.arrived [0xAA#8, a, b])) :=
      congrArg _ (State.arriveThrough_eq _ ha)
    have hres : (s.arrived [0xAA#8, a, b]).resolve a b = s.resolve a b := rfl
    rw [hexec]
    refine ⟨fun h => ?_, fun h => ?_, fun r h => ?_⟩ <;> unfold takeReadRecord <;> rw [hres, h]
    · rfl
    · rfl
    · dsimp only
      rw [State.recordResponse_eq]
      rfl

/-! ### ENABLE and DISABLE STATION (R59 to R61) -/

theorem stationOfByte_none {b : Byte} (h : 64 ≤ b.toNat) : stationOfByte b = none := dif_neg (by omega)

theorem stationOfByte_some {b : Byte} {st : StationIdx} (h : b.toNat = st.val) : stationOfByte b = some st := by
  unfold stationOfByte
  rw [dif_pos (h ▸ st.isLt)]
  exact congrArg some (Fin.ext h)

/-- The ABANDON frames of a disablement, for the records of one station (R60). -/
theorem State.disableAbandons_eq (s : State) (st : StationIdx) {rs : List RecordIdx}
    (hrs : ∀ r ∈ rs, (s.record r).station = st) :
    s.disableAbandons rs = (rs.filter (fun r => (s.record r).state.inFlight)).filterMap
      (fun r => (s.record r).seq.map (fun q => ControlFrame.abandon (dropOf st) q)) := by
  unfold State.disableAbandons
  rw [List.filterMap_filter]
  refine List.filterMap_congr fun r hr => ?_
  rw [hrs r hr]

/-- Settles O23: both decisions by the state of the entry that the station byte names. -/
theorem enableAndDisableStation : Obligations.EnableAndDisableStation := by
  refine ⟨fun s b ha => ?_, fun s b ha => ?_⟩
  · have hexec : exec (.enableStation b) s = .next (takeEnableStation b (s.arrived [0xB4#8, b])) :=
      congrArg _ (State.arriveThrough_eq _ ha)
    have hent : ∀ st, (s.arrived [0xB4#8, b]).entry st = s.entry st := fun _ => rfl
    rw [hexec]
    refine ⟨fun h => ?_, fun st h => ⟨fun hst => ?_, fun hst => ?_⟩⟩
    · simp only [takeEnableStation, stationOfByte_none h]; rfl
    · simp only [takeEnableStation, stationOfByte_some h, hent]
      split
      · exact absurd ‹_› hst
      all_goals rfl
    · simp only [takeEnableStation, stationOfByte_some h, hent, hst]; rfl
  · have hexec : exec (.disableStation b) s = .next (takeDisableStation b (s.arrived [0xB5#8, b])) :=
      congrArg _ (State.arriveThrough_eq _ ha)
    have hent : ∀ st, (s.arrived [0xB5#8, b]).entry st = s.entry st := fun _ => rfl
    rw [hexec]
    refine ⟨fun h => ?_, fun st h => ⟨fun hst => ?_, fun hst rs u hrs hu => ?_⟩⟩
    · simp only [takeDisableStation, stationOfByte_none h]; rfl
    · simp only [takeDisableStation, stationOfByte_some h, hent, hst]; rfl
    · have htake : takeDisableStation b (s.arrived [0xB5#8, b]) =
          ((s.arrived [0xB5#8, b]).disableStation st).respond [0#8] := by
        simp only [takeDisableStation, stationOfByte_some h, hent]
        split
        · exact absurd ‹_› hst
        all_goals rfl
      have hsame : (s.arrived [0xB5#8, b]).liveWhere (fun x => x.station == st) = rs := hrs ▸ rfl
      have hcs := State.disableAbandons_eq (s.arrived [0xB5#8, b]) st (rs := rs) fun r hr =>
        beq_iff_eq.mp ((s.mem_liveWhere _ r).mp (hrs ▸ hr)).2
      rw [htake, State.disableStation]
      simp only [hsame, hcs, ← hu]
      rfl

/-! ### The end of a frame (R12, R93, R95) -/

/-- The transmitter of a line becomes IDLE, with no line reset waiting and RESETTING at 0 (R93). -/
theorem State.afterIdle_eq_choose {s : State} {n : LineNo} (hw : (s.line n).resetWaiting = false)
    (hr : s.resetting = false) : s.afterIdle n = s.choose n := by
  simp [State.afterIdle, hw, hr]

theorem State.idleTx_eq_choose {s : State} {n : LineNo} (hw : (s.line n).resetWaiting = false)
    (hr : s.resetting = false) :
    (s.setLine n { s.line n with tx := .idle }).afterIdle n = (s.setLine n { s.line n with tx := .idle }).choose n :=
  State.afterIdle_eq_choose (by rw [State.line_setLine_self]; exact hw) hr

/-- Settles O41: the handle that is presented decides what happens before the transmitter is IDLE. -/
theorem frameEnds : Obligations.FrameEnds := by
  intro s n ho hw hr
  have hexec : exec (.transmitEnd n) s = .next (s.transmitEnd n) := congrArg _ (if_pos ho)
  have hstop : exec (.stoppingEnd n) s = .next (s.stoppingEnd n) := congrArg _ (if_pos ho)
  rw [hexec, hstop]
  refine ⟨fun f p htx => ?_, fun f h p htx => ⟨fun hg hs => ?_, fun hnot => ?_⟩, fun f p htx => ?_⟩
  · simp only [State.transmitEnd, htx, State.presentHandle]
    rw [State.idleTx_eq_choose hw hr]
  · simp only [State.transmitEnd, htx, State.presentHandle, if_pos (And.intro hg hs)]
    exact congrArg _ (State.idleTx_eq_choose hw hr)
  · have hn : ¬ ((s.record h.index).gen = h.gen ∧ (s.record h.index).state = .transmitting) := by
      rintro ⟨h1, h2⟩
      rcases hnot with hx | hx
      · exact hx h1
      · exact hx h2
    simp only [State.transmitEnd, htx, State.presentHandle, if_neg hn]
    rw [State.idleTx_eq_choose hw hr]
  · simp only [State.stoppingEnd, htx]
    rw [State.idleTx_eq_choose hw hr]

end Sys2Proof.Machine
end

section
/-!
The statements about deadlines, the clock and power-on: O52, O2, O3.
-/

namespace Sys2Proof.Machine

/-! ### The deadlines of records (R131 to R135) -/

theorem State.deadlineOver_iff (s : State) (r : RecordIdx) (k : DeadlineKind) :
    s.deadlineOver r k = true ↔ ∃ e, (s.record r).deadline = some ⟨k, e⟩ ∧ s.passed e = true := by
  unfold State.deadlineOver
  cases hd : (s.record r).deadline with
  | none => simp
  | some d =>
    obtain ⟨k', e'⟩ := d
    simp only [Bool.and_eq_true, beq_iff_eq, Option.some.injEq, Deadline.mk.injEq]
    constructor
    · rintro ⟨rfl, hp⟩; exact ⟨e', ⟨rfl, rfl⟩, hp⟩
    · rintro ⟨e, ⟨rfl, rfl⟩, hp⟩; exact ⟨rfl, hp⟩

/-- Before the boundary that ends its expiry tick a deadline is not over (R119). -/
theorem State.deadlineOver_false {s : State} {r : RecordIdx} {d : Deadline} (hd : (s.record r).deadline = some d)
    (hp : s.passed d.expiry = false) (k : DeadlineKind) : s.deadlineOver r k = false := by
  simp only [State.deadlineOver, hd, hp, Bool.and_false]

theorem State.deadlineOver_true {s : State} {r : RecordIdx} {d : Deadline} (hd : (s.record r).deadline = some d)
    (hp : s.passed d.expiry = true) : s.deadlineOver r d.kind = true := by
  simp [State.deadlineOver, hd, hp]

@[simp] theorem mem_dueIf (b : Bool) (i c : Instr) : c ∈ dueIf b i ↔ b = true ∧ c = i := by
  cases b <;> simp [dueIf]

/-- What the events of one line can be. -/
theorem State.mem_dueLine {s : State} {n : LineNo} {c : Instr} (h : c ∈ s.dueLine n) :
    ∃ b : Byte, c ∈ [Instr.linkUp n, .linkDown n, .goodCharacter n b, .charError n, .receiveGapExpiry n,
      .discardIdleEnd n, .transmitEnd n, .stoppingEnd n, .quiesceDeadlineExpiry n] := by
  simp only [State.dueLine, List.mem_append] at h
  rcases h with (((h | h) | h) | h) | h
  · simp only [State.dueLink, List.mem_append, mem_dueIf] at h
    rcases h with ⟨-, rfl⟩ | ⟨-, rfl⟩ <;> exact ⟨0#8, by simp⟩
  · unfold State.dueChar at h
    split at h
    · rename_i d _
      rw [mem_dueIf] at h
      exact ⟨d, by simp [h.2]⟩
    · rw [mem_dueIf] at h
      exact ⟨0#8, by simp [h.2]⟩
    all_goals cases h
  · unfold State.dueIdle at h
    split at h
    · split at h
      · cases h
      · exact ⟨0#8, by simp [List.mem_singleton.mp h]⟩
      · rw [mem_dueIf] at h
        exact ⟨0#8, by simp [h.2]⟩
    · cases h
  · unfold State.dueTx at h
    split at h
    · cases h
    all_goals
      rw [mem_dueIf] at h
      exact ⟨0#8, by simp [h.2]⟩
  · unfold State.dueQuiesce at h
    split at h
    · cases h
    · rw [mem_dueIf] at h
      exact ⟨0#8, by simp [h.2]⟩

theorem State.mem_due {s : State} (ho : s.operating = true) (c : Instr) : c ∈ s.due ↔
    (s.tickLength ≤ s.tickPhase ∧ c = .tick) ∨ (∃ n, c ∈ s.dueLine n) ∨ (∃ r, c ∈ s.dueRecord r) ∨
      (∃ st, c ∈ s.dueStation st) ∨ (s.idleOver = true ∧ c = .idleTimerExpiry) := by
  simp only [State.due, if_pos ho, List.mem_append, mem_dueIf, List.mem_flatMap, List.mem_finRange, true_and,
    decide_eq_true_eq, or_assoc]

/-- An expiry of a record's deadline can only be an event of that record. -/
theorem State.mem_due_of_record {s : State} (ho : s.operating = true) {r : RecordIdx} {c : Instr}
    (hc : c ∈ [Instr.replyDeadlineExpiry r, .segmentDeadlineExpiry r, .holdoffDeadlineExpiry r]) :
    c ∈ s.due ↔ c ∈ s.dueRecord r := by
  rw [State.mem_due ho]
  constructor
  · rintro (⟨-, rfl⟩ | ⟨n, hl⟩ | ⟨i, hi⟩ | ⟨st, hst⟩ | ⟨-, rfl⟩)
    · simp at hc
    · obtain ⟨b, hb⟩ := State.mem_dueLine hl
      simp only [List.mem_cons, List.not_mem_nil, or_false] at hc hb
      rcases hc with rfl | rfl | rfl <;> simp at hb
    · have hir : i = r := by
        simp only [State.dueRecord, List.mem_append, mem_dueIf] at hi
        simp only [List.mem_cons, List.not_mem_nil, or_false] at hc
        rcases hc with rfl | rfl | rfl <;> simp at hi <;> exact hi.2.symm
      exact hir ▸ hi
    · simp only [State.dueStation, List.mem_append, mem_dueIf] at hst
      rcases hst with ⟨-, rfl⟩ | ⟨-, rfl⟩ <;> simp at hc
    · simp at hc
  · exact fun h => .inr (.inr (.inl ⟨r, h⟩))

/-- Settles O52: each expiry acts when its deadline is over, and by the threshold and the budget. -/
theorem recordDeadlines : Obligations.RecordDeadlines := by
  refine ⟨fun s r d st u ho hd hst hu => ?_, fun s r ho => ?_⟩
  · subst hst
    have hthr : u.thresholdReached (s.record r).station =
        decide (s.params.lossThreshold ≤ (s.entry (s.record r).station).failures + 1) := by
      subst hu
      simp [State.thresholdReached]
    have hreply : s.replyExpiry r =
        if u.thresholdReached (s.record r).station then u.loseStation (s.record r).station
        else if (s.record r).retriesUsed < (s.record r).retryBudget then (u.retry r).settle (lineOf (s.record r).station)
        else (u.timeOut r).settle (lineOf (s.record r).station) := by
      subst hu; rfl
    have hsegment : s.segmentExpiry r =
        if u.thresholdReached (s.record r).station then u.loseStation (s.record r).station
        else (u.timeOut r).settle (lineOf (s.record r).station) := by
      subst hu; rfl
    refine ⟨fun hp => ?_, fun hp => ⟨fun hk hs => ?_, fun hk hs => ?_, fun hk hs => ?_⟩, ?_⟩
    · have hover := State.deadlineOver_false hd hp
      refine ⟨congrArg _ (if_neg ?_), congrArg _ (if_neg ?_), congrArg _ (if_neg ?_)⟩ <;> rw [hover] <;> simp
    · have hexec : exec (.replyDeadlineExpiry r) s = .next (s.replyExpiry r) :=
        congrArg _ (if_pos (by rw [← hk, State.deadlineOver_true hd hp, hs, ho]; rfl))
      rw [hexec, hreply, hthr]
      refine ⟨fun hle => ?_, fun hlt => ⟨fun hb => ?_, fun hb => ?_⟩⟩
      · rw [if_pos (decide_eq_true hle)]
      · rw [if_neg (by simpa using hlt), if_pos hb]
        subst hu; rfl
      · rw [if_neg (by simpa using hlt), if_neg (Nat.not_lt.mpr hb)]
        rfl
    · have hexec : exec (.segmentDeadlineExpiry r) s = .next (s.segmentExpiry r) :=
        congrArg _ (if_pos (by rw [← hk, State.deadlineOver_true hd hp, hs, ho]; rfl))
      rw [hexec, hsegment, hthr]
      refine ⟨fun hle => ?_, fun hlt => ?_⟩
      · rw [if_pos (decide_eq_true hle)]
      · rw [if_neg (by simpa using hlt)]
        rfl
    · exact congrArg _ (if_pos (by rw [← hk, State.deadlineOver_true hd hp, hs, ho]; rfl))
    · have htick : ∀ rs, (u.endRecords .stationLost true rs).tick = s.tick := fun rs =>
        (u.rest_endRecords .stationLost true rs).tick.trans (by subst hu; rfl)
      have hrs : u.liveWhere (fun x => x.station == (s.record r).station) =
          s.liveWhere (fun x => x.station == (s.record r).station) := by subst hu; rfl
      simp only [State.loseStation, hrs, htick]
      rfl
  · have hlist : ∀ c ∈ [Instr.replyDeadlineExpiry r, .segmentDeadlineExpiry r, .holdoffDeadlineExpiry r],
        (c ∈ s.due ↔ c ∈ s.dueRecord r) := fun c hc => State.mem_due_of_record ho hc
    refine ⟨?_, ?_, ?_⟩
    all_goals
      rw [hlist _ (by simp)]
      simp only [State.dueRecord, List.mem_append, mem_dueIf, Bool.and_eq_true, beq_iff_eq, State.deadlineOver_iff]
      simp

/-! ### The step on an empty queue (R189) -/

theorem exec_next (c : Instr) (s : State) : ∃ t, exec c s = .next t := by
  cases c <;> exact ⟨_, rfl⟩

/-- The event that the free choice takes is one of those that are due. -/
theorem State.chosenDue_mem (s : State) (c : Instr) (cs : List Instr) : s.chosenDue c cs ∈ c :: cs := by
  have hlt : Config.eventChoice s.choices % (c :: cs).length < (c :: cs).length := Nat.mod_lt _ (by simp)
  rw [State.chosenDue, List.getD_eq_getElem _ _ hlt]
  exact List.getElem_mem hlt

/-- Settles O2: by the branches of the step on an empty queue and by the parts of the list of due events. -/
theorem emptyQueueRunsClock : Obligations.EmptyQueueRunsClock := by
  refine ⟨exec_next, fun s hp => ?_, fun s c hc => ?_⟩
  · have hstep : step s = s.idleStep := by simp only [step, hp]
    rw [hstep]
    refine ⟨fun h => ?_, fun c h => ?_, fun c d cs h => ⟨s.chosenDue c (d :: cs), ?_, ?_⟩⟩
    · simp only [State.idleStep, h]
    · simp only [State.idleStep, h]
    · rw [h]; exact s.chosenDue_mem c (d :: cs)
    · simp only [State.idleStep, h]
  · have ho : s.operating = true := by
      by_contra hno
      rw [State.due, if_neg hno] at hc
      cases hc
    rcases (State.mem_due ho c).mp hc with ⟨-, h⟩ | ⟨n, h⟩ | ⟨r, h⟩ | ⟨st, h⟩ | ⟨-, h⟩
    · exact .inl h
    · obtain ⟨b, hb⟩ := State.mem_dueLine h
      exact .inr (.inr (.inl ⟨n, b, hb⟩))
    · refine .inr (.inr (.inr (.inl ⟨r, ?_⟩)))
      simp only [State.dueRecord, List.mem_append, mem_dueIf] at h
      rcases h with (⟨-, rfl⟩ | ⟨-, rfl⟩) | ⟨-, rfl⟩ <;> simp
    · refine .inr (.inr (.inr (.inr ⟨st, ?_⟩)))
      simp only [State.dueStation, List.mem_append, mem_dueIf] at h
      rcases h with ⟨-, rfl⟩ | ⟨-, rfl⟩ <;> simp
    · exact .inr (.inl h)

/-! ### Power-on and pin reset (R22) -/

theorem State.freeCount_powerOn (p : Power) (s : State) : (s.powerOn p).freeCount = 48 := by
  simp [State.freeCount, State.powerOn, State.reset, Vector.toList_replicate, Record.blank]

theorem State.table_powerOn (p : Power) (s : State) :
    (∀ r, ((s.powerOn p).record r).state = .free ∧ ((s.powerOn p).record r).gen = 0 ∧
      ((s.powerOn p).record r).deadline = none) ∧
    (s.powerOn p).freeCount = 48 ∧ (∀ u, u ≤ 16 → ¬ (s.powerOn p).freeCount ≤ u) ∧
    (s.powerOn p).params.urgentReserve = 4 ∧ (s.powerOn p).freeLow = false ∧
    (∀ n, ((s.powerOn p).line n).dispatchQ = [] ∧ ((s.powerOn p).line n).tx = .idle) ∧
    (s.powerOn p).completionQ = [] := by
  have hfree := s.freeCount_powerOn p
  refine ⟨fun r => ?_, hfree, fun u hu => ?_, rfl, ?_, fun n => ?_, rfl⟩
  · rw [State.record_powerOn]; exact ⟨rfl, rfl, rfl⟩
  · rw [hfree]; omega
  · rw [State.freeLow, hfree]; rfl
  · rw [State.line_powerOn]; exact ⟨rfl, rfl⟩

/-- Settles O3: both resets put the device into the power-on state. -/
theorem powerOnTable : Obligations.PowerOnTable := by
  rintro s c (rfl | ⟨p, hp, rfl⟩)
  · exact ⟨_, rfl, s.table_powerOn _⟩
  · exact ⟨_, congrArg Host.Outcome.next (if_pos hp), s.table_powerOn _⟩

end Sys2Proof.Machine
end

section
/-!
The statements about named parameter writes and output pins: O33, O38.
-/

namespace Sys2Proof.Machine

/-! ### Named writes (R192, R204) -/

/-- SET PARAMETER stores the value of a parameter that acts on nothing else, when its checks pass (R192). -/
theorem State.setRise_stored {s : State} {number index : Byte} {v : BitVec 16} (h : s.Serving (setBytes number index v))
    {p : Param} (hp : Param.ofNumber number.toNat = some p) (hi : index.toNat < p.indexCount)
    (hv : p.least ≤ v.toNat ∧ v.toNat ≤ p.greatest) (hw : s.writableNow p index.toNat = true)
    (hafter : ∀ u : State, u.afterWrite p index.toNat v.toNat = u) :
    s.setRise number index v = ({ s with params := s.params.write p index.toNat v.toNat } : State).closePort := by
  have hcheck : State.checkedParam { s with port := s.port.havingAtLeast (setBytes number index v) } number.toNat
      index.toNat v.toNat = some p := by
    have hw' : State.writableNow { s with port := s.port.havingAtLeast (setBytes number index v) } p index.toNat =
        true := hw
    simp only [State.checkedParam, hp, hi, hv.1, hv.2, hw', and_self, if_true]
  rw [State.setRise, State.riseThrough_eq _ h, State.writeParameter, hcheck]
  simp only [hafter]
  rfl

/-- SET PARAMETER is refused when a check fails, and COMMAND_ERROR carries its opcode (R181, R192). -/
theorem State.setRise_refused {s : State} {number index : Byte} {v : BitVec 16} (h : s.Serving (setBytes number index v))
    {p : Param} (hp : Param.ofNumber number.toNat = some p)
    (hbad : ¬ (index.toNat < p.indexCount ∧ p.least ≤ v.toNat ∧ v.toNat ≤ p.greatest ∧
      s.writableNow p index.toNat = true)) :
    s.setRise number index v = (s.report (commandErrorOf 0xD1#8)).closePort := by
  have hcheck : State.checkedParam { s with port := s.port.havingAtLeast (setBytes number index v) } number.toNat
      index.toNat v.toNat = none := by
    simp only [State.checkedParam, hp]
    exact if_neg hbad
  rw [State.setRise, State.riseThrough_eq _ h, State.writeParameter, hcheck]
  rfl

theorem byteOf_line (n : LineNo) : (byteOf n.val).toNat = n.val := by
  have := n.isLt
  simp only [byteOf, BitVec.toNat_ofNat]
  omega

/-- LINE_RATE and WINDOW_LIMIT may be written while the line is OFF (R192). -/
theorem State.writableNow_line (s : State) (n : LineNo) :
    (s.writableNow .lineRate n.val = true ↔ (s.line n).link = .off) ∧
      (s.writableNow .windowLimit n.val = true ↔ (s.line n).link = .off) := by
  simp [State.writableNow]

theorem setAt_eq_set {α : Type} {k : Nat} (xs : Vector α k) (i : Fin k) (x : α) :
    setAt xs i.val x = xs.set i.val x := dif_pos i.isLt

theorem bitVec_toNat_eq_zero (v : BitVec 16) : v.toNat = 0 ↔ v = 0#16 :=
  ⟨fun h => BitVec.eq_of_toNat_eq h, fun h => by rw [h]; rfl⟩

theorem classOfValue_toNat (v : BitVec 16) : classOfValue v.toNat = if v = 0#16 then .notice else .alert := by
  simp only [classOfValue, bitVec_toNat_eq_zero]

theorem toNat_bne_zero (v : BitVec 16) : (v.toNat != 0) = (v != 0#16) := by
  rw [Bool.eq_iff_iff]
  simp only [bne_iff_ne, ne_eq, bitVec_toNat_eq_zero]

/-- Settles O33: each write by `State.setRise_stored` or `State.setRise_refused` with its range. -/
theorem namedParameterWrites : Obligations.NamedParameterWrites := by
  have hmax : ∀ v : BitVec 16, v.toNat ≤ 65535 := fun v => by have := v.isLt; omega
  refine ⟨fun s n v => ⟨fun h => ⟨fun hl hv => ?_, fun hbad => ?_⟩, fun h => ⟨fun hl hv => ?_, fun hbad => ?_⟩⟩,
    fun s v => ⟨fun h => ⟨fun hv => ?_, fun hv => ?_⟩, fun h => ⟨fun hv => ?_, fun hv => ?_⟩,
      fun h => ⟨fun hv => ?_, fun hv => ?_⟩⟩,
    fun s b v => ⟨fun h => ⟨fun k hk hv => ?_, fun hbad => ?_⟩, fun h => ⟨fun k hk hv => ?_, fun hbad => ?_⟩⟩⟩
  · have hi := byteOf_line n
    refine congrArg _ ((State.setRise_stored h (p := .lineRate) rfl (by rw [hi]; exact n.isLt) ⟨hv, hmax v⟩
      (by rw [hi]; exact (s.writableNow_line n).1.mpr hl) fun _ => rfl).trans ?_)
    rw [hi, Params.write, setAt_eq_set]
  · refine congrArg _ (State.setRise_refused h (p := .lineRate) rfl ?_)
    rw [byteOf_line, (s.writableNow_line n).1]
    rintro ⟨-, h1, -, h2⟩
    rcases hbad with hb | hb
    · exact hb h2
    · exact absurd h1 (Nat.not_le.mpr hb)
  · have hi := byteOf_line n
    refine congrArg _ ((State.setRise_stored h (p := .windowLimit) rfl (by rw [hi]; exact n.isLt) hv
      (by rw [hi]; exact (s.writableNow_line n).2.mpr hl) fun _ => rfl).trans ?_)
    rw [hi, Params.write, setAt_eq_set]
  · refine congrArg _ (State.setRise_refused h (p := .windowLimit) rfl ?_)
    rw [byteOf_line, (s.writableNow_line n).2]
    rintro ⟨-, h1, h3, h2⟩
    simp only [Param.least, Param.greatest] at h1 h3
    rcases hbad with hb | hb | hb
    · exact hb h2
    · omega
    · omega
  · exact congrArg _ (State.setRise_stored h (p := .tickDivider) rfl (by decide) ⟨hv, hmax v⟩ rfl fun _ => rfl)
  · refine congrArg _ (State.setRise_refused h (p := .tickDivider) rfl ?_)
    simp [Param.least, hv]
  · exact congrArg _ (State.setRise_stored h (p := .urgentReserve) rfl (by decide) ⟨Nat.zero_le _, hv⟩ rfl fun _ => rfl)
  · refine congrArg _ (State.setRise_refused h (p := .urgentReserve) rfl ?_)
    simp only [Param.greatest]
    omega
  · refine congrArg _ ((State.setRise_stored h (p := .noteEnable) rfl (by decide) ⟨Nat.zero_le _, hv⟩ rfl
      fun _ => rfl).trans ?_)
    have hw : BitVec.ofNat 4 v.toNat = v.setWidth 4 := BitVec.eq_of_toNat_eq (by simp)
    rw [Params.write, hw]
  · refine congrArg _ (State.setRise_refused h (p := .noteEnable) rfl ?_)
    simp only [Param.greatest]
    omega
  · refine congrArg _ ((State.setRise_stored h (p := .errorClass) rfl (hk ▸ k.isLt) ⟨Nat.zero_le _, hv⟩ rfl
      fun _ => rfl).trans ?_)
    rw [hk, Params.write, setAt_eq_set, classOfValue_toNat]
  · refine congrArg _ (State.setRise_refused h (p := .errorClass) rfl ?_)
    simp only [Param.indexCount, Param.greatest]
    omega
  · refine congrArg _ ((State.setRise_stored h (p := .faultEnable) rfl (hk ▸ k.isLt) ⟨Nat.zero_le _, hv⟩ rfl
      fun _ => rfl).trans ?_)
    rw [hk, Params.write, setAt_eq_set, toNat_bne_zero]
  · refine congrArg _ (State.setRise_refused h (p := .faultEnable) rfl ?_)
    simp only [Param.indexCount, Param.greatest]
    omega

/-! ### Flags and pins (R99, R103, R153, R177) -/

theorem vector_any_iff {α : Type} {k : Nat} (xs : Vector α k) (p : α → Bool) :
    xs.toList.any p = true ↔ ∃ i : Fin k, p xs[i.val] = true := by
  simp only [List.any_eq_true, List.mem_iff_getElem, Vector.length_toList, Vector.getElem_toList]
  constructor
  · rintro ⟨_, ⟨i, hi, rfl⟩, hp⟩; exact ⟨⟨i, hi⟩, hp⟩
  · rintro ⟨i, hp⟩; exact ⟨_, ⟨i.val, i.isLt, rfl⟩, hp⟩

theorem State.sourceA_iff (s : State) : s.sourceA = true ↔ ∃ st : StationIdx, (s.entry st).presented.isSome = true :=
  vector_any_iff _ _

theorem State.sourceQ_iff (s : State) : s.sourceQ = true ↔ ∃ n : LineNo, (s.line n).quiesceFinished = true :=
  vector_any_iff _ _

theorem State.sourceS_iff (s : State) : s.sourceS = true ↔ ∃ st : StationIdx, (s.entry st).changed = true :=
  vector_any_iff _ _

theorem State.flagF_iff (s : State) : s.flagF = true ↔ ∃ k : Fin 11, s.faults.alerts[k.val] = true :=
  vector_any_iff _ _

theorem State.anyLineDown_iff (s : State) : s.anyLineDown = true ↔ ∃ n : LineNo, (s.line n).link = .down :=
  (vector_any_iff _ _).trans (exists_congr fun _ => beq_iff_eq)

/-- TXD shows the bit of the waveform whose bit time has begun (R99). -/
theorem State.txd_of_busy {s : State} {n : LineNo} {f : Frame} {c : TxPos}
    (h : (∃ k, (s.line n).tx = .sending f k c) ∨ (s.line n).tx = .stopping f c) :
    s.denAsserted n = true ∧ s.txd n = charLevel (f.wire.getD c.char 0#8) (c.elapsed / c.bitTime) := by
  rcases h with ⟨k, h⟩ | h <;> simp [State.denAsserted, State.txd, h]

/-- Settles O38: each source by its own lemma, and TXD by the bit time in progress. -/
theorem outputPins : Obligations.OutputPins := by
  intro s
  refine ⟨?_, ?_, s.sourceA_iff, s.sourceQ_iff, s.sourceS_iff, s.flagF_iff, s.anyLineDown_iff, by simp [State.freeLow],
    fun n => ⟨fun h => by simp [State.txd, State.denAsserted, h], fun f c h hb => ?_⟩⟩
  · simp only [State.noteAsserted, Bool.or_eq_true, Bool.and_eq_true, s.sourceA_iff, s.sourceQ_iff, s.sourceS_iff,
      or_assoc]
  · simp [State.faultAsserted]
  · obtain ⟨hden, htxd⟩ := State.txd_of_busy h
    rw [htxd]
    refine ⟨hden, fun hlt => ?_, fun k hlo hhi => ?_, fun hlo => ?_⟩
    · rw [Nat.div_eq_of_lt hlt]; rfl
    · have hbit : c.elapsed / c.bitTime = k.val + 1 :=
        Nat.div_eq_of_lt_le hlo hhi
      have hk := k.isLt
      rw [hbit, charLevel, if_neg (Nat.succ_ne_zero _), if_pos (by omega), Nat.add_sub_cancel]
    · have hbit : 9 ≤ c.elapsed / c.bitTime := (Nat.le_div_iff_mul_le hb).mpr hlo
      rw [charLevel, if_neg (by omega), if_neg (by omega)]

end Sys2Proof.Machine
end

section
/-!
The presence sweep and the arbiter on lines that a reset has cleared, and what a line reset does: O29.
-/

namespace Sys2Proof.Machine

/-! ### The presence sweep with room in the control queue (R63) -/

/-- A PROBE finds room (R63, R86). -/
theorem State.probeOne_of_ready {s : State} {n : LineNo} {d : DropNo} (h : s.probeReady n d = true)
    (hroom : (s.line n).controlQ.length < Config.controlCapacity) :
    s.probeOne n d = (s.setLine n { s.line n with controlQ := (s.line n).controlQ ++ [.probe d] }).setEntry
      (stationAt n d) ((s.entry (stationAt n d)).probedAt (s.after s.params.probeInterval[n.val])) := by
  have hup : (s.line n).link = .up := by
    simp only [State.probeReady, Bool.and_eq_true, beq_iff_eq] at h
    exact h.1.2
  rw [State.probeOne, if_pos h, State.offer, if_pos hup, if_pos hroom]

theorem State.probeOne_of_not_ready {s : State} {n : LineNo} {d : DropNo} (h : s.probeReady n d = false) :
    s.probeOne n d = s := by
  rw [State.probeOne, if_neg (by rw [h]; simp)]

/-- What a sweep over some drops of a line comes to, when its control queue has room for all of them (R63). -/
structure State.Swept (n : LineNo) (ds : List DropNo) (s t : State) : Prop where
  line : t.line n = { s.line n with
    controlQ := (s.line n).controlQ ++ (ds.filter (fun d => s.probeReady n d)).map .probe }
  others : ∀ m, m ≠ n → t.line m = s.line m
  entry : ∀ d, t.entry (stationAt n d) = if d ∈ ds ∧ s.probeReady n d = true then
    (s.entry (stationAt n d)).probedAt (s.after s.params.probeInterval[n.val]) else s.entry (stationAt n d)
  away : ∀ st, lineOf st ≠ n → t.entry st = s.entry st
  faults : t.faults = s.faults

/-- Whether an entry is to be probed, after the PROBE of another drop. -/
theorem State.probeReady_probeOne_ne {s : State} {n : LineNo} {d e : DropNo} (hde : e ≠ d)
    (hroom : (s.line n).controlQ.length < Config.controlCapacity) :
    (s.probeOne n d).probeReady n e = s.probeReady n e := by
  cases h : s.probeReady n d with
  | false => rw [State.probeOne_of_not_ready h]
  | true =>
    have hst : stationAt n e ≠ stationAt n d := fun he => hde (stationAt_inj.mp he).2
    rw [State.probeOne_of_ready h hroom]
    simp only [State.probeReady, State.entry_setEntry_ne _ hst, State.entry_setLine, State.line_setEntry,
      State.line_setLine_self]

theorem State.swept_foldl (n : LineNo) {ds : List DropNo} (hn : ds.Nodup) (s : State)
    (hroom : (s.line n).controlQ.length + ds.length ≤ Config.controlCapacity) :
    s.Swept n ds (ds.foldl (State.probeOne n) s) := by
  induction ds generalizing s with
  | nil => exact ⟨by simp, fun _ _ => rfl, fun d => by simp, fun _ _ => rfl, rfl⟩
  | cons d ds ih =>
    obtain ⟨hd, hn⟩ := List.nodup_cons.mp hn
    rw [List.length_cons] at hroom
    have hlt : (s.line n).controlQ.length < Config.controlCapacity := by omega
    have hne : ∀ e ∈ ds, e ≠ d := fun e he => ne_of_mem_of_not_mem he hd
    have hready : ∀ e ∈ ds, (s.probeOne n d).probeReady n e = s.probeReady n e := fun e he =>
      State.probeReady_probeOne_ne (hne e he) hlt
    rw [List.foldl_cons]
    cases h : s.probeReady n d with
    | false =>
      rw [State.probeOne_of_not_ready h]
      obtain ⟨h1, h2, h3, h4, h5⟩ := ih hn s (by omega)
      refine ⟨by rw [h1, List.filter_cons, if_neg (by rw [h]; simp)], h2, fun e => ?_, h4, h5⟩
      rw [h3]
      refine if_congr ⟨fun hc => ⟨List.mem_cons_of_mem _ hc.1, hc.2⟩, fun hc => ⟨?_, hc.2⟩⟩ rfl rfl
      rcases List.mem_cons.mp hc.1 with rfl | hm
      · rw [h] at hc; cases hc.2
      · exact hm
    | true =>
      have hone := State.probeOne_of_ready h hlt
      have hafter : ∀ k, (s.probeOne n d).after k = s.after k := fun k => by rw [hone]; rfl
      have hline : (s.probeOne n d).line n = { s.line n with controlQ := (s.line n).controlQ ++ [.probe d] } := by
        rw [hone, State.line_setEntry, State.line_setLine_self]
      have hentry : ∀ st, st ≠ stationAt n d → (s.probeOne n d).entry st = s.entry st := fun st hst => by
        rw [hone, State.entry_setEntry_ne _ hst, State.entry_setLine]
      have hself : (s.probeOne n d).entry (stationAt n d) =
          (s.entry (stationAt n d)).probedAt (s.after s.params.probeInterval[n.val]) := by
        rw [hone, State.entry_setEntry_self]
      have hparams : (s.probeOne n d).params = s.params := by rw [hone]; rfl
      obtain ⟨h1, h2, h3, h4, h5⟩ := ih hn (s.probeOne n d) (by
        rw [hline, List.length_append, List.length_singleton]
        omega)
      refine ⟨?_, fun m hm => ?_, fun e => ?_, fun st hst => ?_, ?_⟩
      · rw [h1, hline, List.filter_cons, if_pos h, List.filter_congr hready]
        simp
      · rw [h2 m hm, hone, State.line_setEntry, State.line_setLine_ne _ hm]
      · rw [h3, hafter, hparams]
        by_cases he : e = d
        · subst he
          rw [if_neg (fun hc => hd hc.1), if_pos ⟨List.mem_cons_self, h⟩, hself]
        · have hst : stationAt n e ≠ stationAt n d := fun hc => he (stationAt_inj.mp hc).2
          rw [hentry _ hst, State.probeReady_probeOne_ne he hlt]
          refine if_congr ⟨fun hc => ⟨List.mem_cons_of_mem _ hc.1, hc.2⟩, fun hc => ⟨?_, hc.2⟩⟩ rfl rfl
          exact (List.mem_cons.mp hc.1).resolve_left he
      · rw [h4 st hst]
        exact hentry st fun hc => hst (by rw [hc, lineOf_stationAt])
      · rw [h5, hone]; rfl

/-- The sweep of a line whose control queue has room for all its drops (R63). -/
theorem State.swept_probeSweep (n : LineNo) (s : State) (hroom : (s.line n).controlQ = []) :
    s.Swept n (List.finRange 8) (s.probeSweep n) :=
  State.swept_foldl n (List.nodup_finRange 8) s (by rw [hroom]; decide)

/-! ### The arbiter on a line without queued records (R90) -/

/-- An IDLE transmitter takes the first control frame, if there is one (R90, R92). -/
def Line.firstControl (rate : Nat) (l : Line) : Line :=
  match l.controlQ with
  | [] => l
  | c :: cs => { l with controlQ := cs, tx := .sending c.frame none { char := 0, elapsed := 0, bitTime := rate } }

/-- Only its control queue and its transmitter change in a line of which a choice takes a control frame. -/
theorem Line.firstControl_eq (rate : Nat) (l : Line) :
    l.firstControl rate = { l with controlQ := (l.firstControl rate).controlQ, tx := (l.firstControl rate).tx } := by
  unfold Line.firstControl
  split <;> rfl

theorem Line.firstControl_of_nil {rate : Nat} {l : Line} (h : l.controlQ = []) : l.firstControl rate = l := by
  rw [Line.firstControl, h]

theorem Line.firstControl_of_cons {rate : Nat} {l : Line} {c : ControlFrame} {cs : List ControlFrame}
    (h : l.controlQ = c :: cs) : l.firstControl rate =
      { l with controlQ := cs, tx := .sending c.frame none { char := 0, elapsed := 0, bitTime := rate } } := by
  rw [Line.firstControl, h]

theorem State.choose_eq_firstControl {s : State} {n : LineNo} (hq : (s.line n).dispatchQ = [])
    (hi : (s.line n).tx = .idle) (hw : (s.line n).resetWaiting = false) (hr : s.resetting = false) :
    s.choose n = s.setLine n ((s.line n).firstControl s.params.lineRate[n.val]) := by
  rw [State.choose, if_pos ⟨hi, hw, hr⟩, Line.firstControl]
  cases hc : (s.line n).controlQ with
  | nil => simp [hq]
  | cons c cs => simp [State.startFrame]

/-- What a choice does on a line without queued records: no record and no entry changes, and no other line. -/
theorem State.choose_of_no_dispatch {s : State} {n : LineNo} (hq : (s.line n).dispatchQ = []) :
    (s.choose n).records = s.records ∧ (s.choose n).stations = s.stations ∧
      ∀ m, m ≠ n → (s.choose n).line m = s.line m := by
  rcases State.choose_cases n s with h | ⟨-, -, -, ⟨c, rest, -, h⟩ | ⟨h', -, hm, -, -⟩⟩
  · rw [h]; exact ⟨rfl, rfl, fun _ _ => rfl⟩
  · rw [h]
    refine ⟨rfl, rfl, fun m hm => ?_⟩
    rw [State.startFrame, State.line_setLine_ne _ hm, State.line_setLine_ne _ hm]
  · rw [hq] at hm; cases hm

/-! ### Entries under a reset (R68, R69) -/

theorem Entry.reset_of_disabled {t : Tick} {e : Entry} (h : e.state = .disabled) :
    e.reset t = { e with fence := Vector.replicate 16 none, changed := false, ackMark := false } := by
  simp [Entry.reset, h]

theorem Entry.reset_of_not_disabled {t : Tick} {e : Entry} (h : e.state ≠ .disabled) :
    e.reset t = { e with
      fence := Vector.replicate 16 none, changed := false, ackMark := false, state := .absent, identity := none
      window := none, replaced := false, failures := 0, presented := none, pendingCause := none, probeTick := t
      probeDue := true } := by
  simp [Entry.reset, h, Entry.dueAt]

/-- An entry that is reset is to be probed unless it is DISABLED, when its line is UP (R68, R69). -/
theorem State.probeReady_reset {s u : State} {n : LineNo} {d : DropNo} {t : Tick}
    (he : u.entry (stationAt n d) = (s.entry (stationAt n d)).reset t) (hs : (u.line n).service = .opened)
    (hl : (u.line n).link = (s.line n).link) :
    u.probeReady n d = ((s.line n).link == .up && (s.entry (stationAt n d)).state != .disabled) := by
  simp only [State.probeReady, he, hs, hl, beq_self_eq_true, Bool.and_true]
  by_cases h : (s.entry (stationAt n d)).state = .disabled
  · simp [Entry.reset_of_disabled h, h, StationState.probed]
  · have hne : ((s.entry (stationAt n d)).state != .disabled) = true := by simpa using h
    simp [Entry.reset_of_not_disabled h, StationState.probed, hne]

/-- The PROBE frames of a line that a reset has cleared (R68, R69). -/
def State.resetProbes (s : State) (n : LineNo) : List ControlFrame :=
  if (s.line n).link = .up then
    ((List.finRange 8).filter (fun d => (s.entry (stationAt n d)).state != .disabled)).map .probe
  else []

/-- The entry of a drop of a line that a reset has cleared, after the presence sweep (R63, R68, R69). -/
def State.resetEntry (s : State) (n : LineNo) (d : DropNo) : Entry :=
  if (s.entry (stationAt n d)).state = .disabled then
    { s.entry (stationAt n d) with fence := Vector.replicate 16 none, changed := false, ackMark := false }
  else
    { s.entry (stationAt n d) with
      state := .absent, identity := none, window := none, replaced := false, failures := 0, presented := none
      pendingCause := none, fence := Vector.replicate 16 none, changed := false, ackMark := false
      probeDue := decide ((s.line n).link ≠ .up)
      probeTick := if (s.line n).link = .up then s.tick + BitVec.ofNat 32 s.params.probeInterval[n.val] else s.tick }

/-- Line `n` of `s`, its stations and the clock as a reset leaves them in `u`, before the presence sweep (R68, R171). -/
structure State.Cleared (s u : State) (n : LineNo) : Prop where
  entry : ∀ d, u.entry (stationAt n d) = (s.entry (stationAt n d)).reset s.tick
  service : (u.line n).service = .opened
  link : (u.line n).link = (s.line n).link
  controlQ : (u.line n).controlQ = []
  tick : u.tick = s.tick
  params : u.params = s.params

/-- A line that a reset has cleared, after its presence sweep. -/
theorem State.Cleared.probeSweep {s u : State} {n : LineNo} (h : s.Cleared u n) :
    (u.probeSweep n).line n = { u.line n with controlQ := s.resetProbes n } ∧
      ∀ d, (u.probeSweep n).entry (stationAt n d) = s.resetEntry n d := by
  have hready := fun d => State.probeReady_reset (h.entry d) h.service h.link
  have hsw := State.swept_probeSweep n u h.controlQ
  refine ⟨?_, fun d => ?_⟩
  · rw [hsw.line, h.controlQ, List.nil_append, State.resetProbes]
    simp only [hready]
    by_cases hup : (s.line n).link = .up
    · simp [hup]
    · have hf : ((s.line n).link == .up) = false := by simpa using hup
      simp [hup, hf]
  · rw [hsw.entry, hready, h.entry, State.resetEntry]
    simp only [List.mem_finRange, true_and, State.after, h.tick, h.params]
    by_cases hd : (s.entry (stationAt n d)).state = .disabled
    · simp [hd, Entry.reset_of_disabled hd]
    · have hne : ((s.entry (stationAt n d)).state != .disabled) = true := by simpa using hd
      rw [Entry.reset_of_not_disabled hd, hne, Bool.and_true, if_neg hd]
      by_cases hup : (s.line n).link = .up
      · simp [hup, Entry.probedAt]
      · simp [hup]

/-! ### A line reset (R97, R116, R171) -/

/-- Records that end without a fence leave every entry as it is (R72). -/
theorem State.endRecords_stations (o : ExchOutcome) (rs : List RecordIdx) (s : State) :
    (s.endRecords o false rs).stations = s.stations := by
  rw [State.endRecords_eq, State.enterCompletion_stations]
  refine State.foldl_keeps State.stations _ (fun s r => ?_) rs s
  simp only [State.endOne, State.setRecord_stations, State.giveUp]
  split <;> rfl

/-- The end of a line's live records empties its dispatch queue, and leaves the other lines as they are (R85). -/
theorem State.line_sweepLine {s : State} (h : s.DispatchLawful) (o : ExchOutcome) (f : Bool) (n m : LineNo) :
    (s.endRecords o f (s.liveOnLine n)).line m = if m = n then { s.line n with dispatchQ := [] } else s.line m := by
  have hmem : ∀ r, r ∈ s.liveOnLine n ↔ (s.record r).state.live = true ∧ (s.record r).line = n := fun r => by
    rw [State.liveOnLine, State.mem_liveWhere, beq_iff_eq]
  rw [State.line_endRecords]
  split
  · subst m
    have hnil : (s.line n).dispatchQ.filter
        (fun k => !(s.liveOnLine n).any (fun r => r == k.index && (s.record r).line == n)) = [] := by
      refine List.filter_eq_nil_iff.mpr fun k hk => ?_
      obtain ⟨-, hq, hl⟩ := h.queued n k hk
      have hin : k.index ∈ s.liveOnLine n := (hmem _).mpr ⟨by rw [hq]; rfl, hl⟩
      simp only [Bool.not_eq_true', Bool.not_eq_false, List.any_eq_true, Bool.and_eq_true, beq_iff_eq]
      exact ⟨_, hin, rfl, hl⟩
    rw [hnil]
  · rename_i hm
    have hall : (s.line m).dispatchQ.filter
        (fun k => !(s.liveOnLine n).any (fun r => r == k.index && (s.record r).line == m)) = (s.line m).dispatchQ := by
      refine List.filter_eq_self.mpr fun k _ => ?_
      simp only [Bool.not_eq_true', List.any_eq_false, Bool.and_eq_true, beq_iff_eq, not_and]
      rintro r hr - hl
      exact hm (hl.symm.trans ((hmem r).mp hr).2)
    rw [hall]

/-- The parts of a line reset on the line's records, on the line and on its entries. -/
def State.resetLine (n : LineNo) (s : State) : State :=
  let s := s.endRecords .lineReset false (s.liveOnLine n)
  let s := s.setLine n (s.line n).resetOwn
  s.mapLineEntries n (Entry.reset s.tick)

/-- The state of a line reset before the presence sweep. -/
def State.resetCleared (n : LineNo) (s : State) : State :=
  { s.resetLine n with port := (s.resetLine n).port.voidAck n }

theorem State.lineResetActs_eq (n : LineNo) (s : State) :
    s.lineResetActs n = ((s.resetCleared n).probeSweep n).choose n := rfl

/-- The line itself after a reset (R97, R116, R171). -/
theorem Line.resetOwn_eq (l : Line) :
    l.resetOwn = { l with
      controlQ := [], resetWaiting := false, service := .opened, quiesceDeadline := none, markRun := 0, spaceRun := 0
      rx := if l.link = .up then .discarding else l.rx, quiet := if l.link = .up then 0 else l.quiet } := by
  unfold Line.resetOwn Line.discardFrame
  split <;> rfl

theorem State.resetCleared_parts (n : LineNo) {s : State} (h : s.DispatchLawful) :
    (s.resetCleared n).line n = { (s.line n).resetOwn with dispatchQ := [] } ∧
    (∀ m, m ≠ n → (s.resetCleared n).line m = s.line m) ∧
    (∀ d, (s.resetCleared n).entry (stationAt n d) = (s.entry (stationAt n d)).reset s.tick) ∧
    (∀ st, lineOf st ≠ n → (s.resetCleared n).entry st = s.entry st) := by
  have hline := s.line_sweepLine h .lineReset false n
  have hent := State.entry_congr (s.endRecords_stations .lineReset (s.liveOnLine n))
  have htick := (s.rest_endRecords .lineReset false (s.liveOnLine n)).tick
  have hline' : ∀ m, (s.resetCleared n).line m =
      ((s.endRecords .lineReset false (s.liveOnLine n)).setLine n
        ((s.endRecords .lineReset false (s.liveOnLine n)).line n).resetOwn).line m := fun m => by
    rw [State.line_congr (show (s.resetCleared n).lines = (s.resetLine n).lines from rfl), State.resetLine]
    exact State.line_mapLineEntries _ n _ m
  have hent' : ∀ st, (s.resetCleared n).entry st =
      if lineOf st = n then ((s.endRecords .lineReset false (s.liveOnLine n)).entry st).reset
        (s.endRecords .lineReset false (s.liveOnLine n)).tick
      else (s.endRecords .lineReset false (s.liveOnLine n)).entry st := fun st => by
    rw [State.entry_congr (show (s.resetCleared n).stations = (s.resetLine n).stations from rfl), State.resetLine]
    exact State.entry_mapLineEntries _ n _ st
  refine ⟨?_, fun m hm => ?_, fun d => ?_, fun st hst => ?_⟩
  · rw [hline', State.line_setLine_self, hline, if_pos rfl, Line.resetOwn_eq, Line.resetOwn_eq]
  · rw [hline', State.line_setLine_ne _ hm, hline, if_neg hm]
  · rw [hent', if_pos (lineOf_stationAt n d), hent, htick]
  · rw [hent', if_neg hst, hent]

/-- A state of which all but some parts are those of another. -/
theorem State.eq_of_unchanged {s t : State} (hf : t.faults = s.faults) (hp : t.params = s.params)
    (htick : t.tick = s.tick) (hphase : t.tickPhase = s.tickPhase) (hlen : t.tickLength = s.tickLength)
    (hres : t.resetting = s.resetting) (hpins : t.pins = s.pins) (hpow : t.power = s.power)
    (hch : t.choices = s.choices) (hpend : t.pending = s.pending) :
    t = { s with
      records := t.records, stations := t.stations, lines := t.lines, completionQ := t.completionQ
      signalC := t.signalC, idleTimer := t.idleTimer, port := t.port } := by
  cases t
  simp only at *
  subst hf hp htick hphase hlen hres hpins hpow hch hpend
  rfl

/-- Which acknowledgements in progress a line reset makes void (R158). -/
theorem Port.voidAck_eq (p : Port) (n : LineNo) :
    (∀ d, p.op = some .ackAttention → p.taken = true → (p.params.getD 0 0#8).toNat = (stationAt n d).val →
      p.voidAck n = { p with ackVoid := true }) ∧
    ((p.op ≠ some .ackAttention ∨ p.taken = false ∨ ∀ d, (p.params.getD 0 0#8).toNat ≠ (stationAt n d).val) →
      p.voidAck n = p) := by
  unfold Port.voidAck
  refine ⟨fun d ho ht hb => if_pos ⟨ho, ht, ?_⟩, fun hnot => if_neg ?_⟩
  rotate_left
  · rw [Port.param, stationOfByte_some hb, Option.map_some, lineOf_stationAt]
  · rintro ⟨ho, ht, hb⟩
    rcases hnot with hx | hx | hx
    · exact hx ho
    · rw [ht] at hx; cases hx
    · rw [Port.param] at hb
      cases hst : stationOfByte (p.params.getD 0 0#8) with
      | none => rw [hst] at hb; cases hb
      | some st =>
        rw [hst] at hb
        obtain rfl : lineOf st = n := Option.some.inj hb
        refine hx (dropOf st) ?_
        rw [stationAt_lineOf_dropOf]
        unfold stationOfByte at hst
        split at hst
        · cases hst; rfl
        · cases hst

end Sys2Proof.Machine
end

section
/-!
What a line reset does when it acts: O29.
-/

namespace Sys2Proof.Machine

/-- What a choice does on a line without queued records: an IDLE transmitter may take a control frame (R90). -/
theorem State.line_choose_of_no_dispatch {s : State} {n : LineNo} (hq : (s.line n).dispatchQ = [])
    (hw : (s.line n).resetWaiting = false) :
    (s.choose n).line n = { s.line n with
      controlQ := ((s.choose n).line n).controlQ, tx := ((s.choose n).line n).tx } ∧
    ((s.line n).controlQ = [] ∨ (s.line n).tx ≠ .idle ∨ s.resetting = true → (s.choose n).line n = s.line n) ∧
    (∀ c cs, (s.line n).controlQ = c :: cs → (s.line n).tx = .idle → s.resetting = false →
      ((s.choose n).line n).controlQ = cs ∧ ((s.choose n).line n).tx =
        .sending c.frame none { char := 0, elapsed := 0, bitTime := s.params.lineRate[n.val] }) := by
  by_cases hb : (s.line n).tx ≠ .idle ∨ s.resetting = true
  · have hs : s.choose n = s := State.choose_of_busy n s (hb.imp_right .inr)
    refine ⟨by rw [hs], fun _ => by rw [hs], fun c cs _ hi hr => ?_⟩
    rcases hb with hb | hb
    · exact absurd hi hb
    · rw [hr] at hb; cases hb
  · obtain ⟨hi, hr⟩ : (s.line n).tx = .idle ∧ s.resetting = false := by simpa using hb
    rw [State.choose_eq_firstControl hq hi hw hr, State.line_setLine_self]
    refine ⟨Line.firstControl_eq _ _, fun hc => ?_, fun c cs hc _ _ => ?_⟩
    · exact Line.firstControl_of_nil (hc.resolve_right hb)
    · rw [Line.firstControl_of_cons hc]; exact ⟨rfl, rfl⟩

theorem State.quiet_resetLine (n : LineNo) (s : State) :
    (s.endRecords .lineReset false (s.liveOnLine n)).Quiet (s.resetLine n) :=
  (State.quiet_setLine _ n _).trans (State.quiet_mapLineEntries _ n _)

theorem State.resetLine_records (n : LineNo) (s : State) :
    (s.resetLine n).records = (s.endRecords .lineReset false (s.liveOnLine n)).records :=
  (State.sameTable_mapLineEntries _ n _).records

theorem State.resetLine_faults (n : LineNo) (s : State) : (s.resetLine n).faults = s.faults := by
  have hmap : ∀ (u : State) (f : Entry → Entry), (u.mapLineEntries n f).faults = u.faults := fun u f => by
    simp only [State.mapLineEntries, State.mapEntries_faults]
  rw [State.resetLine]
  exact (hmap _ _).trans (s.endRecords_faults .lineReset false (s.liveOnLine n))

/-- What a line reset does not touch (R97). -/
theorem State.lineResetActs_eq_unchanged (n : LineNo) {s : State} (h : s.DispatchLawful) :
    (s.lineResetActs n).port = s.port.voidAck n ∧
    s.lineResetActs n = { s with
      records := (s.lineResetActs n).records, stations := (s.lineResetActs n).stations
      lines := (s.lineResetActs n).lines, completionQ := (s.lineResetActs n).completionQ
      signalC := (s.lineResetActs n).signalC, idleTimer := (s.lineResetActs n).idleTimer
      port := (s.lineResetActs n).port } := by
  have hq := ((s.resetCleared n).quiet_probeSweep n).trans (State.quiet_choose n _)
  rw [← State.lineResetActs_eq] at hq
  have hr := (s.rest_endRecords .lineReset false (s.liveOnLine n)).trans (s.quiet_resetLine n).rest
  have hf : (s.lineResetActs n).faults = s.faults := by
    rw [State.lineResetActs_eq, State.choose_faults, (State.swept_probeSweep n (s.resetCleared n) (by
      rw [(State.resetCleared_parts n h).1, Line.resetOwn_eq])).faults]
    exact s.resetLine_faults n
  exact ⟨hq.rest.port.trans (congrArg (fun p => Port.voidAck p n) hr.port),
    State.eq_of_unchanged hf (hq.rest.params.trans hr.params) (hq.rest.tick.trans hr.tick)
      (hq.rest.tickPhase.trans hr.tickPhase) (hq.rest.tickLength.trans hr.tickLength)
      (hq.rest.resetting.trans hr.resetting) (hq.rest.pins.trans hr.pins) (hq.rest.power.trans hr.power)
      (hq.rest.choices.trans hr.choices) (hq.rest.pending.trans hr.pending)⟩

/-- The Completion Unit after a line reset is that after the end of the line's records (R141). -/
theorem State.lineResetActs_completion (n : LineNo) (s : State) :
    (s.lineResetActs n).completionQ = (s.endRecords .lineReset false (s.liveOnLine n)).completionQ ∧
    (s.lineResetActs n).signalC = (s.endRecords .lineReset false (s.liveOnLine n)).signalC ∧
    (s.lineResetActs n).idleTimer = (s.endRecords .lineReset false (s.liveOnLine n)).idleTimer := by
  have hq := ((s.resetCleared n).quiet_probeSweep n).trans (State.quiet_choose n _)
  have hr := s.quiet_resetLine n
  exact ⟨hq.completionQ.trans hr.completionQ, hq.signalC.trans hr.signalC, hq.idleTimer.trans hr.idleTimer⟩

/-- The line and the entries between the presence sweep and the choice of a line reset. -/
theorem State.sweep_resetCleared (n : LineNo) {s : State} (h : s.DispatchLawful) :
    ((s.resetCleared n).probeSweep n).line n =
      { (s.line n).resetOwn with dispatchQ := [], controlQ := s.resetProbes n } ∧
    ∀ d, ((s.resetCleared n).probeSweep n).entry (stationAt n d) = s.resetEntry n d := by
  obtain ⟨hline, -, hent, -⟩ := State.resetCleared_parts n h
  have hr := (s.rest_endRecords .lineReset false (s.liveOnLine n)).trans (s.quiet_resetLine n).rest
  have hc : s.Cleared (s.resetCleared n) n := ⟨hent, by rw [hline, Line.resetOwn_eq],
    by rw [hline, Line.resetOwn_eq], by rw [hline, Line.resetOwn_eq], hr.tick, hr.params⟩
  have hsw := hc.probeSweep
  rw [hline] at hsw
  exact hsw

theorem State.record_lineResetActs (n : LineNo) {s : State} (h : s.DispatchLawful) (r : RecordIdx) :
    (s.lineResetActs n).record r =
      if r ∈ s.liveWhere (fun x => x.line == n) then (s.record r).ended .lineReset else s.record r := by
  have hd : (((s.resetCleared n).probeSweep n).line n).dispatchQ = [] := by rw [(State.sweep_resetCleared n h).1]
  refine (State.record_congr ?_ r).trans (s.record_endRecords .lineReset false (s.liveOnLine n) r)
  rw [State.lineResetActs_eq, (State.choose_of_no_dispatch hd).1, State.probeSweep_records]
  exact s.resetLine_records n

/-- Settles O29: the parts of a line reset, with its entries and its line after the presence sweep, and the choice of
a line without queued records. -/
theorem lineResetActs : Obligations.LineResetActs := by
  intro s n t rs ps hd ht hrs hps
  subst hrs hps
  rw [ht]
  obtain ⟨hline, hent⟩ := State.sweep_resetCleared n hd
  obtain ⟨hcleared, hothers, -, haway⟩ := State.resetCleared_parts n hd
  obtain ⟨hport, heq⟩ := State.lineResetActs_eq_unchanged n hd
  obtain ⟨hqueue, hsig, hidle⟩ := s.lineResetActs_completion n
  have hsw := State.swept_probeSweep n (s.resetCleared n) (by rw [hcleared, Line.resetOwn_eq])
  have hquiet := ((s.resetCleared n).quiet_probeSweep n).rest
  have hrest := (s.rest_endRecords .lineReset false (s.liveOnLine n)).trans (s.quiet_resetLine n).rest
  have hnone : (((s.resetCleared n).probeSweep n).line n).dispatchQ = [] := by rw [hline]
  obtain ⟨-, hstations, hlines⟩ := State.choose_of_no_dispatch hnone
  obtain ⟨hshape, hstay, htake⟩ := State.line_choose_of_no_dispatch hnone (by rw [hline, Line.resetOwn_eq])
  have hentry : ∀ d, (s.lineResetActs n).entry (stationAt n d) = s.resetEntry n d := fun d =>
    (State.entry_congr hstations _).trans (hent d)
  have hresetting : ((s.resetCleared n).probeSweep n).resetting = s.resetting := hquiet.resetting.trans hrest.resetting
  have hparams : ((s.resetCleared n).probeSweep n).params = s.params := hquiet.params.trans hrest.params
  rw [← State.lineResetActs_eq, hline, Line.resetOwn_eq] at hshape hstay
  rw [← State.lineResetActs_eq, hline, Line.resetOwn_eq, hparams] at htake
  rw [hresetting] at hstay htake
  refine ⟨fun r => by rw [s.mem_liveWhere, beq_iff_eq], fun r hr => ?_, fun r hr => ?_,
    hqueue.trans (s.endRecords_queue _ _ _), hsig, hidle, fun d hne => ?_, fun d hdis => ?_, fun st hst => ?_, hshape,
    fun hc => ?_, htake, fun m hm => ?_, fun d ho ht hb => ?_, fun hnot => ?_, heq⟩
  · rw [State.record_lineResetActs n hd, if_pos hr]; rfl
  · rw [State.record_lineResetActs n hd, if_neg hr]
  · rw [hentry, State.resetEntry, if_neg hne]
  · rw [hentry, State.resetEntry, if_pos hdis]
  · exact (State.entry_congr hstations _).trans ((hsw.away st hst).trans (haway st hst))
  · rw [hstay hc]; exact ⟨rfl, rfl⟩
  · exact (hlines m hm).trans ((hsw.others m hm).trans (hothers m hm))
  · exact hport.trans ((s.port.voidAck_eq n).1 d ho ht hb)
  · exact hport.trans ((s.port.voidAck_eq n).2 hnot)

end Sys2Proof.Machine
end

section
/-!
What a soft reset does: O30.
-/

namespace Sys2Proof.Machine

/-! ### Folds over the lines (R63, R91) -/

/-- The presence sweeps of lines that a reset has cleared: each line and its entries are as after its own sweep. -/
theorem State.foldl_probeSweep_of_cleared {s : State} {ns : List LineNo} (hn : ns.Nodup) (u : State)
    (h : ∀ n ∈ ns, s.Cleared u n) :
    (∀ n, (ns.foldl (fun x m => x.probeSweep m) u).line n =
      if n ∈ ns then { u.line n with controlQ := s.resetProbes n } else u.line n) ∧
    (∀ n d, (ns.foldl (fun x m => x.probeSweep m) u).entry (stationAt n d) =
      if n ∈ ns then s.resetEntry n d else u.entry (stationAt n d)) ∧
    (ns.foldl (fun x m => x.probeSweep m) u).faults = u.faults := by
  induction ns generalizing u with
  | nil => exact ⟨fun n => by simp, fun n d => by simp, rfl⟩
  | cons m ns ih =>
    obtain ⟨hm, hn⟩ := List.nodup_cons.mp hn
    have hcm := h m List.mem_cons_self
    have hsw := State.swept_probeSweep m u hcm.controlQ
    have hq := (u.quiet_probeSweep m).rest
    obtain ⟨hself, hselfEnt⟩ := hcm.probeSweep
    rw [List.foldl_cons]
    generalize u.probeSweep m = v at *
    have haway : ∀ n, n ≠ m → ∀ d, v.entry (stationAt n d) = u.entry (stationAt n d) := fun n hne d =>
      hsw.away _ (by rw [lineOf_stationAt]; exact hne)
    obtain ⟨hline, hent, hf⟩ := ih hn v fun n hin => by
      have hne : n ≠ m := ne_of_mem_of_not_mem hin hm
      have hcn := h n (List.mem_cons_of_mem _ hin)
      have hl := hsw.others n hne
      exact ⟨fun d => (haway n hne d).trans (hcn.entry d), by rw [hl, hcn.service], by rw [hl, hcn.link],
        by rw [hl, hcn.controlQ], hq.tick.trans hcn.tick, hq.params.trans hcn.params⟩
    refine ⟨fun n => ?_, fun n d => ?_, hf.trans hsw.faults⟩
    · rw [hline]
      by_cases hnm : n = m
      · subst n
        rw [if_neg hm, if_pos List.mem_cons_self, hself]
      · simp only [List.mem_cons, hnm, false_or, hsw.others n hnm]
    · rw [hent]
      by_cases hnm : n = m
      · subst n
        rw [if_neg hm, if_pos List.mem_cons_self, hselfEnt]
      · simp only [List.mem_cons, hnm, false_or, haway n hnm d]

/-- The choices of IDLE lines without queued records: each takes its first control frame, and nothing else changes. -/
theorem State.foldl_choose_of_idle {ns : List LineNo} (hn : ns.Nodup) (u : State) (hr : u.resetting = false)
    (h : ∀ n ∈ ns, (u.line n).dispatchQ = [] ∧ (u.line n).tx = .idle ∧ (u.line n).resetWaiting = false) :
    (∀ n, (ns.foldl (fun x m => x.choose m) u).line n =
      if n ∈ ns then (u.line n).firstControl u.params.lineRate[n.val] else u.line n) ∧
    (ns.foldl (fun x m => x.choose m) u).records = u.records ∧
    (ns.foldl (fun x m => x.choose m) u).stations = u.stations := by
  induction ns generalizing u with
  | nil => exact ⟨fun n => by simp, rfl, rfl⟩
  | cons m ns ih =>
    obtain ⟨hm, hn⟩ := List.nodup_cons.mp hn
    obtain ⟨hq, hi, hw⟩ := h m List.mem_cons_self
    obtain ⟨hrec, hst, hothers⟩ := State.choose_of_no_dispatch hq
    have hself : (u.choose m).line m = (u.line m).firstControl u.params.lineRate[m.val] := by
      rw [State.choose_eq_firstControl hq hi hw hr, State.line_setLine_self]
    have hquiet := (State.quiet_choose m u).rest
    rw [List.foldl_cons]
    generalize u.choose m = v at *
    obtain ⟨hline, hrec', hst'⟩ := ih hn v (hquiet.resetting.trans hr) fun n hin => by
      rw [hothers n (ne_of_mem_of_not_mem hin hm)]
      exact h n (List.mem_cons_of_mem _ hin)
    refine ⟨fun n => ?_, hrec'.trans hrec, hst'.trans hst⟩
    rw [hline, hquiet.params]
    by_cases hnm : n = m
    · subst n
      rw [if_neg hm, if_pos List.mem_cons_self, hself]
    · simp only [List.mem_cons, hnm, false_or, hothers n hnm]

/-! ### The parts of a soft reset (R195) -/

/-- A line after a soft reset and its presence sweep, before the choices (R98, R117, R171). -/
def State.softLine (s : State) (n : LineNo) : Line := { (s.line n).softReset with controlQ := s.resetProbes n }

/-- A DISCARDING receiver begins its idle measure anew (R117). -/
def Line.measureAnew (l : Line) : Line := if l.rx = .discarding then { l with quiet := 0 } else l

theorem Line.softReset_eq (l : Line) :
    l.softReset = { l with
      dispatchQ := [], controlQ := [], resetWaiting := false, service := .opened, quiesceDeadline := none
      rx := if l.link = .up then .discarding else l.rx, quiet := if l.link = .up then 0 else l.quiet } := by
  unfold Line.softReset Line.discardFrame
  split <;> rfl

theorem Line.measureAnew_eq (l : Line) :
    l.measureAnew = { l with quiet := if l.rx = .discarding then 0 else l.quiet } := by
  unfold Line.measureAnew
  split <;> rfl

theorem State.cleared_softened (s : State) (n : LineNo) : s.Cleared s.softened n := by
  have hline : s.softened.line n = { s.line n with
      dispatchQ := [], controlQ := [], resetWaiting := false, service := .opened, quiesceDeadline := none
      rx := if (s.line n).link = .up then .discarding else (s.line n).rx
      quiet := if (s.line n).link = .up then 0 else (s.line n).quiet } := by
    rw [State.line_softened, Line.softReset_eq]
  exact ⟨fun d => s.entry_softened _, by rw [hline], by rw [hline], by rw [hline], by rw [s.softened_rest],
    by rw [s.softened_rest]⟩

/-- The state of a soft reset before the in-progress period: its lines and entries, and what stays (R195). -/
theorem State.probeAll_softened (s : State) :
    (∀ n, s.softened.probeAll.line n = s.softLine n) ∧
    (∀ n d, s.softened.probeAll.entry (stationAt n d) = s.resetEntry n d) ∧
    (∀ r, s.softened.probeAll.record r = (s.record r).softReset) ∧
    s.softened.probeAll.faults = s.faults := by
  obtain ⟨hline, hent, hf⟩ := State.foldl_probeSweep_of_cleared (List.nodup_finRange 8) s.softened
    (fun n _ => s.cleared_softened n)
  refine ⟨fun n => (hline n).trans ?_, fun n d => (hent n d).trans (if_pos (List.mem_finRange n)), fun r => ?_,
    hf.trans (by rw [s.softened_rest])⟩
  · rw [if_pos (List.mem_finRange n), State.line_softened, State.softLine]
  · rw [State.record_congr (s.softened.still_probeAll).table.records, State.record_softened]

/-- The Completion Unit is empty after a soft reset, and the parts that no operation touches stay (R154, R195). -/
theorem State.quiet_probeAll_softened (s : State) :
    ({ s with completionQ := [], signalC := false, idleTimer := none } : State).Quiet s.softened.probeAll := by
  refine State.Quiet.trans ?_ (s.softened.still_probeAll).table.quiet
  rw [s.softened_rest]
  constructor
  · constructor <;> rfl
  all_goals rfl

theorem State.busyLines_isEmpty (s : State) : s.busyLines.isEmpty = true ↔ ∀ n, (s.line n).tx = .idle := by
  simp [State.busyLines]

/-- While a transmitter is busy the in-progress period goes on. -/
theorem State.beginPeriod_of_busy {s : State} (h : ∃ n, (s.line n).tx ≠ .idle) :
    s.beginPeriod = { s with resetting := true } := by
  obtain ⟨n, hn⟩ := h
  exact if_neg fun he => hn (s.busyLines_isEmpty.mp he n)

/-- The in-progress period that ends at once, on lines without queued records and waiting resets. -/
theorem State.beginPeriod_of_idle {s : State} (hi : ∀ n, (s.line n).tx = .idle)
    (h : ∀ n, (s.line n).dispatchQ = [] ∧ (s.line n).resetWaiting = false) :
    (∀ n, s.beginPeriod.line n = (s.line n).measureAnew.firstControl s.params.lineRate[n.val]) ∧
    s.beginPeriod.records = s.records ∧ s.beginPeriod.stations = s.stations ∧ s.beginPeriod.faults = s.faults ∧
    ({ s with resetting := false } : State).Quiet s.beginPeriod := by
  have heq : s.beginPeriod = (State.mapLines (fun _ l => l.measureAnew) { s with resetting := false }).chooseAll :=
    if_pos (s.busyLines_isEmpty.mpr hi)
  have hline : ∀ n, (State.mapLines (fun _ l => l.measureAnew) { s with resetting := false }).line n =
      (s.line n).measureAnew := fun n => State.line_mapLines _ _ n
  have hquiet := (State.still_mapLines { s with resetting := false } (f := fun _ l => l.measureAnew)
    (fun _ l => by rw [l.measureAnew_eq]) (fun _ l => by rw [l.measureAnew_eq]) (fun _ l => by rw [l.measureAnew_eq]))
  have hf : (State.mapLines (fun _ l => l.measureAnew) { s with resetting := false }).faults = s.faults :=
    State.mapLines_faults _ _
  have hst : (State.mapLines (fun _ l => l.measureAnew) { s with resetting := false }).stations = s.stations :=
    State.mapLines_stations _ _
  rw [heq]
  generalize State.mapLines (fun _ l => l.measureAnew) { s with resetting := false } = u at *
  obtain ⟨h1, h2, h3⟩ := State.foldl_choose_of_idle (List.nodup_finRange 8) u hquiet.table.quiet.rest.resetting
    fun n _ => by rw [hline, Line.measureAnew_eq]; exact ⟨(h n).1, hi n, (h n).2⟩
  refine ⟨fun n => (h1 n).trans ?_, h2.trans hquiet.table.records, h3.trans hst, ?_, ?_⟩
  · rw [if_pos (List.mem_finRange n), hline, hquiet.table.quiet.rest.params]
  · exact (State.foldl_keeps State.faults _ (fun x m => x.choose_faults m) _ u).trans hf
  · exact hquiet.table.quiet.trans (State.quiet_foldl _ (fun x m => x.quiet_choose m) _ u)

theorem takeSoftReset_eq (s : State) : takeSoftReset s = s.softened.probeAll.beginPeriod := rfl

theorem State.softLine_eq (s : State) (n : LineNo) :
    s.softLine n = { s.line n with
      dispatchQ := [], controlQ := s.resetProbes n, resetWaiting := false, service := .opened, quiesceDeadline := none
      rx := if (s.line n).link = .up then .discarding else (s.line n).rx
      quiet := if (s.line n).link = .up then 0 else (s.line n).quiet } := by
  rw [State.softLine, Line.softReset_eq]

theorem State.softLine_tx (s : State) (n : LineNo) : (s.softLine n).tx = (s.line n).tx := by rw [State.softLine_eq]

theorem State.Quiet.withResetting {s t : State} (h : s.Quiet t) (b : Bool) :
    ({ s with resetting := b } : State).Quiet { t with resetting := b } := by
  obtain ⟨⟨h1, h2, h3, h4, h5, -, h7, h8, h9, h10⟩, hq, hc, hi⟩ := h
  exact ⟨⟨h1, h2, h3, h4, h5, rfl, h7, h8, h9, h10⟩, hq, hc, hi⟩

/-- What a soft reset does to a state, when RESETTING is `b` after it: all but the lines (R195). -/
structure State.SoftReset (s t : State) (b : Bool) : Prop where
  record : ∀ r, t.record r = (s.record r).softReset
  entry : ∀ n d, t.entry (stationAt n d) = s.resetEntry n d
  faults : t.faults = s.faults
  quiet : ({ s with completionQ := [], signalC := false, idleTimer := none, resetting := b } : State).Quiet t

/-- A soft reset while a transmitter is busy (R195). -/
theorem takeSoftReset_of_busy {s : State} (h : ∃ n, (s.line n).tx ≠ .idle) :
    s.SoftReset (takeSoftReset s) true ∧ ∀ n, (takeSoftReset s).line n = s.softLine n := by
  obtain ⟨hline, hent, hrec, hf⟩ := s.probeAll_softened
  have hquiet := s.quiet_probeAll_softened.withResetting true
  rw [takeSoftReset_eq]
  generalize s.softened.probeAll = v at *
  have hbusy : ∃ n, (v.line n).tx ≠ .idle := h.imp fun n hn => by rwa [hline, s.softLine_tx]
  rw [State.beginPeriod_of_busy hbusy]
  exact ⟨⟨hrec, hent, hf, hquiet⟩, hline⟩

/-- A soft reset when no transmitter is busy (R195). -/
theorem takeSoftReset_of_idle {s : State} (h : ∀ n, (s.line n).tx = .idle) :
    s.SoftReset (takeSoftReset s) false ∧
      ∀ n, (takeSoftReset s).line n = (s.softLine n).measureAnew.firstControl s.params.lineRate[n.val] := by
  obtain ⟨hline, hent, hrec, hf⟩ := s.probeAll_softened
  have hquiet := s.quiet_probeAll_softened
  rw [takeSoftReset_eq]
  generalize s.softened.probeAll = v at *
  obtain ⟨hline', hrec', hst', hf', hq'⟩ := State.beginPeriod_of_idle (s := v)
    (fun n => by rw [hline, s.softLine_tx]; exact h n) (fun n => by rw [hline, s.softLine_eq]; exact ⟨rfl, rfl⟩)
  refine ⟨⟨fun r => (State.record_congr hrec' r).trans (hrec r), fun n d => (State.entry_congr hst' _).trans (hent n d),
    hf'.trans hf, (hquiet.withResetting false).trans hq'⟩, fun n => ?_⟩
  rw [hline', hline, hquiet.rest.params]

/-- The measure and the queues of a line that no transmitter hinders to begin its first PROBE. -/
theorem State.idle_softLine (s : State) (n : LineNo) (rate : Nat) (l : Line)
    (hl : l = (s.softLine n).measureAnew.firstControl rate) :
    l = { s.line n with
      dispatchQ := [], controlQ := l.controlQ, tx := l.tx, resetWaiting := false, service := .opened
      quiesceDeadline := none, rx := if (s.line n).link = .up then .discarding else (s.line n).rx
      quiet := l.quiet } ∧
    ((s.line n).link = .up → l.quiet = 0) ∧
    ((s.line n).link ≠ .up → (s.line n).rx ≠ .discarding → l.quiet = (s.line n).quiet) ∧
    (s.resetProbes n = [] → l.controlQ = [] ∧ l.tx = (s.line n).tx) ∧
    (∀ c cs, s.resetProbes n = c :: cs → l.controlQ = cs ∧
      l.tx = .sending c.frame none { char := 0, elapsed := 0, bitTime := rate }) := by
  have hm := (s.softLine n).measureAnew_eq
  have hs := s.softLine_eq n
  have hq : (s.softLine n).measureAnew.controlQ = s.resetProbes n := by rw [hm, hs]
  have hf := Line.firstControl_eq rate (s.softLine n).measureAnew
  have hquiet : l.quiet = (s.softLine n).measureAnew.quiet := by rw [hl, hf]
  refine ⟨?_, fun hup => ?_, fun hup hrx => ?_, fun hc => ?_, fun c cs hc => ?_⟩
  · subst hl
    rw [hf, hm, hs]
  · rw [hquiet, hm, hs]
    simp [hup]
  · rw [hquiet, hm, hs]
    simp [hup, hrx]
  · rw [hl, Line.firstControl_of_nil (hq.trans hc)]
    exact ⟨hq.trans hc, by rw [hm, s.softLine_tx]⟩
  · rw [hl, Line.firstControl_of_cons (hq.trans hc)]
    exact ⟨rfl, rfl⟩

/-- The whole state after the rise of CSn of a soft reset. -/
theorem State.SoftReset.closePort_eq {s t : State} {b : Bool} (h : s.SoftReset t b) :
    t.closePort = { s with
      records := t.records, stations := t.stations, lines := t.lines, completionQ := [], signalC := false
      idleTimer := none, resetting := t.resetting, port := Port.idle, pins := { s.pins with csnHigh := true } } := by
  have hb : b = t.resetting := h.quiet.rest.resetting.symm
  subst hb
  have heq := State.eq_of_rest h.quiet.rest h.faults
  rw [h.quiet.completionQ, h.quiet.signalC, h.quiet.idleTimer] at heq
  exact congrArg State.closePort heq

theorem Record.softReset_of_free {x : Record} (h : x.state = .free) : x.softReset = x := if_pos h

theorem Record.softReset_of_not_free {x : Record} (h : x.state ≠ .free) : x.softReset = Record.blank (x.gen + 1) :=
  if_neg h

/-- The parts of a soft reset that do not depend on the transmitters (R23, R68, R80, R154). -/
theorem State.SoftReset.parts {s t : State} {b : Bool} (h : s.SoftReset t b) :
    (∀ r, (s.record r).state = .free → t.record r = s.record r) ∧
    (∀ r, (s.record r).state ≠ .free → t.record r = Record.blank ((s.record r).gen + 1)) ∧
    (∀ n d, (s.entry (stationAt n d)).state ≠ .disabled →
      t.entry (stationAt n d) = { s.entry (stationAt n d) with
        state := .absent, identity := none, window := none, replaced := false, failures := 0, presented := none
        pendingCause := none, fence := Vector.replicate 16 none, changed := false, ackMark := false
        probeDue := decide ((s.line n).link ≠ .up)
        probeTick := if (s.line n).link = .up then s.tick + BitVec.ofNat 32 s.params.probeInterval[n.val] else s.tick }) ∧
    (∀ st, (s.entry st).state = .disabled →
      t.entry st = { s.entry st with fence := Vector.replicate 16 none, changed := false, ackMark := false }) := by
  refine ⟨fun r hr => (h.record r).trans (Record.softReset_of_free hr),
    fun r hr => (h.record r).trans (Record.softReset_of_not_free hr), fun n d hd => (h.entry n d).trans (if_neg hd),
    fun st hd => ?_⟩
  have he := h.entry (lineOf st) (dropOf st)
  rw [State.resetEntry, stationAt_lineOf_dropOf, if_pos hd] at he
  exact he

/-- Settles O30: the soft reset with a busy transmitter and without one, each with the line that it leaves. -/
theorem softReset : Obligations.SoftReset := by
  intro s h
  have hrise : exec .softReset s = .next (takeSoftReset { s with port := s.port.havingAtLeast [0xDE#8] }).closePort :=
    congrArg Host.Outcome.next (State.riseThrough_eq (bs := [0xDE#8]) takeSoftReset h)
  refine ⟨_, hrise, ?_⟩
  by_cases hidle : ∀ n, (s.line n).tx = .idle
  · obtain ⟨hp, hline⟩ := takeSoftReset_of_idle (s := { s with port := s.port.havingAtLeast [0xDE#8] }) hidle
    generalize takeSoftReset { s with port := s.port.havingAtLeast [0xDE#8] } = t at hp hline ⊢
    have hres : t.resetting = false := hp.quiet.rest.resetting
    obtain ⟨hfree, hused, hentry, hdis⟩ := hp.parts
    refine ⟨hfree, hused, hp.quiet.completionQ, hp.quiet.signalC, hp.quiet.idleTimer, hentry, hdis, fun n ps hps => ?_,
      fun ⟨n, hn⟩ => absurd (hidle n) hn, fun _ => hres, hp.closePort_eq⟩
    subst hps
    obtain ⟨hshape, hup, hkept, hnil, hcons⟩ := State.idle_softLine _ n _ _ (hline n)
    refine ⟨hshape, hup, hkept, fun hc => ?_, fun c cs _ hc => hcons c cs hc⟩
    have hempty := hc.resolve_left fun ⟨m, hm⟩ => hm (hidle m)
    rw [hempty]
    exact hnil hempty
  · have hbusy : ∃ n, (s.line n).tx ≠ .idle := not_forall.mp hidle
    obtain ⟨hp, hline⟩ := takeSoftReset_of_busy (s := { s with port := s.port.havingAtLeast [0xDE#8] }) hbusy
    generalize takeSoftReset { s with port := s.port.havingAtLeast [0xDE#8] } = t at hp hline ⊢
    have hres : t.resetting = true := hp.quiet.rest.resetting
    obtain ⟨hfree, hused, hentry, hdis⟩ := hp.parts
    refine ⟨hfree, hused, hp.quiet.completionQ, hp.quiet.signalC, hp.quiet.idleTimer, hentry, hdis, fun n ps hps => ?_,
      fun _ => hres, fun hi => absurd hi hidle, hp.closePort_eq⟩
    subst hps
    have hl := (hline n).trans (State.softLine_eq _ n)
    have hl' : t.closePort.line n = _ := hl
    rw [hl']
    exact ⟨rfl, fun hup => if_pos hup, fun hup _ => if_neg hup, fun _ => ⟨rfl, rfl⟩, fun c cs hi => absurd hi hidle⟩

end Sys2Proof.Machine
end

section
/-!
The bytes of a served transaction and the rise of CSn that ends it, each as one equation over the instruction.
-/

namespace Sys2Proof.Machine

/-! ### The bytes that the port holds (R183, R186) -/

theorem Port.op_of_bytes {p : Port} {o : Opcode} {ps : List Byte} (h : p.bytes = o.code :: ps) : p.op = some o := by
  rw [Port.op, h]
  exact Opcode.ofByte_code o

/-- An opcode byte that names an instruction is that instruction's code (R203). -/
theorem Opcode.code_of_ofByte {b : Byte} {o : Opcode} (h : Opcode.ofByte b = some o) : b = o.code := by
  have hcode := List.find?_some h
  exact (beq_iff_eq.mp hcode).symm

theorem Port.storeRoom_of_op {p : Port} {o : Opcode} (h : p.op = some o) : p.storeRoom = 1 + o.paramCount := by
  unfold Port.storeRoom
  split
  · rename_i hb
    rw [Port.op, hb] at h
    cases h
  · rw [h]

theorem Port.param_of_bytes {p : Port} {b : Byte} {ps : List Byte} (h : p.bytes = b :: ps) :
    p.param = fun i => ps.getD i 0#8 := by
  funext i
  rw [Port.param, Port.params, h, List.drop_one, List.tail_cons]

/-- The bytes before the last one of an instruction leave room for it (R186). -/
theorem Port.lt_storeRoom {p : Port} {o : Opcode} {pre qs : List Byte} {b : Byte} (hb : p.bytes = pre)
    (hq : pre ++ [b] = o.code :: qs) (hl : qs.length ≤ o.paramCount) : p.bytes.length < p.storeRoom := by
  cases pre with
  | nil => simp [Port.storeRoom, hb]
  | cons c ps =>
    obtain ⟨rfl, rfl⟩ := List.cons.inj hq
    have hlen : (ps ++ [b]).length ≤ o.paramCount := hl
    rw [List.length_append, List.length_singleton] at hlen
    rw [Port.storeRoom_of_op (Port.op_of_bytes hb), hb, List.length_cons]
    omega

/-! ### The arrival of a byte (R183, R185, R186) -/

theorem Port.having_append (p : Port) {pre : List Byte} (b : Byte) (hb : p.bytes = pre) (hc : p.count = pre.length) :
    { p with bytes := p.bytes ++ [b], count := p.count + 1 } = p.having (pre ++ [b]) := by
  rw [Port.having, hb, hc, List.length_append, List.length_singleton]

/-- A byte that the port has room for is stored and counted; what follows depends on the opcode alone. -/
theorem State.byteArrives_stored {s : State} {pre : List Byte} (b : Byte) (h : s.Serving pre)
    (hc : s.port.count = pre.length) (hroom : s.port.bytes.length < s.port.storeRoom) :
    (∀ o, (s.port.having (pre ++ [b])).op = some o →
      exec (.byteArrival b) s = .next
        (if (pre ++ [b]).length = 1 + o.paramCount then
          takeDecision o (s.port.having (pre ++ [b])).param (s.arrived (pre ++ [b])) else s.arrived (pre ++ [b]))) ∧
    ((s.port.having (pre ++ [b])).op = none → exec (.byteArrival b) s = .next (s.arrived (pre ++ [b]))) := by
  have hb : s.port.bytes = pre := h.bytes_eq hc.ge
  have hheard : (s.port.having (pre ++ [b])).ignored = false := Port.not_ignored _ h.served
  have hexec : exec (.byteArrival b) s = .next (s.byteArrives b) := congrArg Host.Outcome.next (if_pos h.portOpen)
  rw [hexec, State.byteArrives]
  simp only [if_pos hroom, Port.having_append s.port b hb hc, hheard]
  constructor
  · intro o ho
    simp only [ho, hb]
    rfl
  · intro ho
    simp only [ho]
    rfl

/-- The opcode or a parameter byte of an instruction arrives: it is stored, and the last one takes the instruction's
decision (R185). -/
theorem State.byteArrives_param {s : State} {o : Opcode} {pre qs : List Byte} {b : Byte} (h : s.Serving pre)
    (hc : s.port.count = pre.length) (hq : pre ++ [b] = o.code :: qs) (hl : qs.length ≤ o.paramCount) :
    exec (.byteArrival b) s = .next
      (if qs.length = o.paramCount then takeDecision o (fun i => qs.getD i 0#8) (s.arrived (o.code :: qs))
        else s.arrived (o.code :: qs)) := by
  have hroom := Port.lt_storeRoom (h.bytes_eq hc.ge) hq hl
  have hall : (o.code :: qs).length = 1 + o.paramCount ↔ qs.length = o.paramCount := by
    rw [List.length_cons, Nat.add_comm 1, Nat.add_right_cancel_iff]
  have hstored := (State.byteArrives_stored b h hc hroom).1 o
  rw [hq, Port.param_of_bytes (p := s.port.having (o.code :: qs)) rfl] at hstored
  simp only [hall] at hstored
  exact hstored (Port.op_of_bytes rfl)

/-- A first byte that takes no decision by itself is stored, be it an opcode or not (R183, R188). -/
theorem State.byteArrives_first {s : State} {b : Byte} (h : s.Serving []) (hc : s.port.count = 0)
    (hb : ∀ o, Opcode.ofByte b = some o → o ≠ .readStatus ∧ o ≠ .collectNext ∧ o ≠ .readErrors) :
    exec (.byteArrival b) s = .next (s.arrived [b]) := by
  cases ho : Opcode.ofByte b with
  | none =>
    have hroom : s.port.bytes.length < s.port.storeRoom := by
      simp [Port.storeRoom, h.bytes_eq (Nat.zero_le _)]
    exact (State.byteArrives_stored b h hc hroom).2 ho
  | some o =>
    obtain ⟨hstatus, hnext, herrors⟩ := hb o ho
    have hq : [] ++ [b] = o.code :: [] := congrArg (· :: []) (Opcode.code_of_ofByte ho)
    rw [State.byteArrives_param h hc hq (Nat.zero_le _), ← hq]
    cases o with
    | readStatus => exact absurd rfl hstatus
    | collectNext => exact absurd rfl hnext
    | readErrors => exact absurd rfl herrors
    | _ => rfl

/-- The last byte of an instruction does what the instruction's command does [log 5]. -/
theorem State.byteArrives_last {s : State} {o : Opcode} {pre qs : List Byte} {b : Byte} {take : State → State}
    (h : s.Serving pre) (hc : s.port.count = pre.length) (hq : pre ++ [b] = o.code :: qs)
    (hl : qs.length = o.paramCount) (ht : takeDecision o (fun i => qs.getD i 0#8) = take) :
    exec (.byteArrival b) s = .next (s.arriveThrough o qs take) := by
  have hwait : s.Awaiting (o.code :: qs) := by
    refine ⟨⟨h.operating, h.opened, h.served, ?_⟩, ?_⟩
    · rw [h.bytes_eq hc.ge, ← hq, hc, List.take_left]
    · rw [hc, ← hq, List.length_append, List.length_singleton]
      exact Nat.lt_succ_self _
  rw [State.byteArrives_param h hc hq hl.le, if_pos hl, State.arriveThrough_eq _ hwait, ht]

/-- The state in which an excess byte has been counted. -/
def State.countByte (s : State) : State := { s with port := { s.port with count := s.port.count + 1 } }

/-- A byte after the parameter bytes is counted and not stored (R186). -/
theorem State.byteArrives_excess {s : State} {o : Opcode} {ps : List Byte} (b : Byte) (h : s.Serving (o.code :: ps))
    (hl : ps.length = o.paramCount) (hc : ps.length + 1 ≤ s.port.count) :
    exec (.byteArrival b) s = .next (s.countByte.excessByte s.port.count b) := by
  have hb : s.port.bytes = o.code :: ps := h.bytes_eq hc
  have hroom : ¬ s.port.bytes.length < s.port.storeRoom := by
    rw [Port.storeRoom_of_op (Port.op_of_bytes hb), hb, List.length_cons]
    omega
  have hheard : s.countByte.port.ignored = false := Port.not_ignored _ h.served
  have hexec : exec (.byteArrival b) s = .next (s.byteArrives b) := congrArg Host.Outcome.next (if_pos h.portOpen)
  have hcounted : s.byteArrives b =
      if s.countByte.port.ignored then s.countByte else s.countByte.excessByte s.port.count b := if_neg hroom
  rw [hexec, hcounted, hheard]
  rfl

theorem State.excessByte_post {s : State} (k : Nat) (b : Byte) (h : s.port.op = some .post) :
    s.excessByte k b = (s.storePayload k b).clockOut := by
  simp only [State.excessByte, h]

theorem State.excessByte_changes {s : State} (k : Nat) (b : Byte) (h : s.port.op = some .readStationChanges) :
    s.excessByte k b = s.beginChangeByte.clockOut := by
  simp only [State.excessByte, h]

theorem State.excessByte_other {s : State} {o : Opcode} (k : Nat) (b : Byte) (h : s.port.op = some o) (hp : o ≠ .post)
    (hc : o ≠ .readStationChanges) : s.excessByte k b = s.clockOut := by
  unfold State.excessByte
  split
  · exact absurd (Option.some.inj (h.symm.trans ‹_›)) hp
  · exact absurd (Option.some.inj (h.symm.trans ‹_›)) hc
  · rfl

/-- Nothing is stored without a reserved record, before the turnaround has passed, and past the announced length
(R29, R33). -/
theorem State.storePayload_of_outside {s : State} {k : Nat} (b : Byte)
    (h : s.port.reserved = none ∨ k < 7 ∨ s.port.postRequired ≤ k) : s.storePayload k b = s := by
  unfold State.storePayload
  split
  · rfl
  · rename_i r hr
    rw [if_neg]
    rintro ⟨h7, hreq⟩
    rcases h with h | h | h
    · rw [hr] at h
      cases h
    · omega
    · omega

theorem State.storePayload_of_within {s : State} {k : Nat} {r : RecordIdx} (b : Byte) (hr : s.port.reserved = some r)
    (h7 : 7 ≤ k) (hreq : k < s.port.postRequired) :
    s.storePayload k b = s.setRecord r { s.record r with payload := (s.record r).payload ++ [b] } := by
  simp only [State.storePayload, hr]
  exact if_pos ⟨h7, hreq⟩

/-! ### The rise of CSn on a served transaction (R183, R185) -/

theorem State.havingAtLeast_self {s : State} {bs : List Byte} (h : s.Serving bs) (hc : bs.length ≤ s.port.count) :
    ({ s with port := s.port.havingAtLeast bs } : State) = s := by
  have hp : s.port.havingAtLeast bs = s.port := by
    rw [Port.havingAtLeast, Nat.max_eq_left hc, ← h.bytes_eq hc]
  rw [hp]

/-- A command that brings an instruction's bytes and the rise of CSn is the rise alone once the bytes have arrived. -/
theorem State.riseThrough_of_arrived {s : State} {bs : List Byte} (effect : State → State) (h : s.Serving bs)
    (hc : bs.length ≤ s.port.count) : s.riseThrough bs effect = (effect s).closePort := by
  rw [State.riseThrough_eq effect h, State.havingAtLeast_self h hc]

theorem State.exec_transactionEnd {s : State} {bs : List Byte} (h : s.Serving bs) (hcsn : s.pins.csnHigh = false) :
    exec .transactionEnd s = .next s.riseEffect.closePort := by
  show Host.Outcome.next _ = _
  rw [if_neg (by rw [hcsn]; exact Bool.false_ne_true), if_pos h.portOpen]

/-- CSn rises once all parameter bytes of an instruction have arrived: the instruction has its effect (R185). -/
theorem State.transactionEnd_complete {s : State} {o : Opcode} {ps : List Byte} (h : s.Serving (o.code :: ps))
    (hl : ps.length = o.paramCount) (hc : ps.length + 1 ≤ s.port.count) (hcsn : s.pins.csnHigh = false) :
    exec .transactionEnd s = .next (takeRise o (fun i => ps.getD i 0#8) s).closePort := by
  have hb : s.port.bytes = o.code :: ps := h.bytes_eq hc
  have hop : s.port.op = some o := Port.op_of_bytes hb
  have hshort : s.port.short = false := by
    simp [Port.short, hop, hb, hl, Nat.add_comm 1]
  rw [State.exec_transactionEnd h hcsn, State.riseEffect, Port.not_ignored _ h.served]
  simp only [hb, List.isEmpty_cons, Bool.or_self, hop, hshort, Bool.false_eq_true, if_false]
  rw [Port.param_of_bytes hb]

/-- The rise of CSn on an unknown opcode reports COMMAND_ERROR (R188). -/
theorem State.transactionEnd_unknown {s : State} {b : Byte} (h : s.Serving [b]) (hc : 1 ≤ s.port.count)
    (hb : Opcode.ofByte b = none) (hcsn : s.pins.csnHigh = false) :
    exec .transactionEnd s = .next s.commandError.closePort := by
  have hbytes : s.port.bytes = [b] := h.bytes_eq hc
  have hop : s.port.op = none := by rw [Port.op, hbytes]; exact hb
  rw [State.exec_transactionEnd h hcsn, State.riseEffect, Port.not_ignored _ h.served]
  simp only [hbytes, List.isEmpty_cons, Bool.or_self, hop, Bool.false_eq_true, if_false]

/-- The rise of CSn on an instruction is the row that brings the instruction's bytes and that rise [log 5]. -/
theorem State.transactionEnd_eq_riseThrough {s : State} {o : Opcode} {ps : List Byte} {effect : State → State}
    (h : s.Serving (o.code :: ps)) (hl : ps.length = o.paramCount) (hc : ps.length + 1 ≤ s.port.count)
    (hcsn : s.pins.csnHigh = false) (he : takeRise o (fun i => ps.getD i 0#8) = effect) :
    exec .transactionEnd s = .next (s.riseThrough (o.code :: ps) effect) := by
  rw [State.transactionEnd_complete h hl hc hcsn, State.riseThrough_of_arrived effect h hc, he]

/-- The rise of CSn on an instruction is the row that names its effect, when that effect comes about [log 20]. -/
theorem State.transactionEnd_eq_riseWhen {s : State} {o : Opcode} {ps : List Byte} {cond : Bool}
    {effect : State → State} (h : s.Serving (o.code :: ps)) (hl : ps.length = o.paramCount)
    (hc : ps.length + 1 ≤ s.port.count) (hcsn : s.pins.csnHigh = false) (hcond : cond = true)
    (he : takeRise o (fun i => ps.getD i 0#8) = effect) :
    exec .transactionEnd s = .next (s.riseWhen cond effect) := by
  rw [State.transactionEnd_complete h hl hc hcsn, State.riseWhen_eq effect h.portOpen h.served hcond, he]

/-! ### Bytes and their bits -/

theorem byteOf_toNat {n : Nat} (h : n < 256) : (byteOf n).toNat = n := Nat.mod_eq_of_lt h

theorem byteOf_getLsbD (n i : Nat) : (byteOf n).getLsbD i = (decide (i < 8) && n.testBit i) :=
  BitVec.getLsbD_ofNat 8 n i

theorem wordOf_highByte_lowByte (v : BitVec 16) : wordOf (highByte v.toNat) (lowByte v.toNat) = v.toNat := by
  have := v.isLt
  simp only [wordOf, highByte, lowByte, byteOf, BitVec.toNat_ofNat]
  omega

/-! ### The markers in a response byte of READ STATION CHANGES (R66) -/

theorem testBit_flagsValue (fs : List Bool) (i : Nat) : (flagsValue fs).testBit i = fs.getD i false := by
  induction fs generalizing i with
  | nil => simp [flagsValue]
  | cons f fs ih =>
    cases i with
    | zero => cases f <;> simp [flagsValue, bitValue, Nat.testBit_zero, Nat.add_mod]
    | succ i =>
      have hhalf : flagsValue (f :: fs) / 2 = flagsValue fs := by
        cases f <;> simp only [flagsValue, bitValue, if_true, Bool.false_eq_true, if_false] <;> omega
      rw [Nat.testBit_succ, hhalf, ih, List.getD_cons_succ]

/-- Bit `d` of a line's byte is the marker of its drop `d`. -/
theorem State.changeByte_getLsbD (s : State) (n : LineNo) (d : DropNo) :
    (s.changeByte n).getLsbD d.val = (s.entry (stationAt n d)).changed := by
  rw [State.changeByte, byteOf_getLsbD, decide_eq_true d.isLt, Bool.true_and, testBit_flagsValue]
  simp

theorem State.beginChangeByte_of_unbegun {s : State} {n : LineNo} (hn : s.port.response.length = n.val)
    (hc : n.val ≤ s.port.clocked) : s.beginChangeByte = s.respond (s.port.response ++ [s.changeByte n]) := by
  have h8 : s.port.response.length < 8 := hn ▸ n.isLt
  have he : (⟨s.port.response.length, h8⟩ : LineNo) = n := Fin.ext hn
  rw [State.beginChangeByte, dif_pos h8, if_pos (hn ▸ hc), he]

theorem State.beginChangeByte_of_begun {s : State}
    (h : s.port.clocked < s.port.response.length ∨ 8 ≤ s.port.response.length) : s.beginChangeByte = s := by
  unfold State.beginChangeByte
  split
  · exact if_neg (by omega)
  · rfl

end Sys2Proof.Machine
end

section
/-!
The statements about the bytes that take no decision, about the taking of an instruction, the refusals of a POST, and
CANCEL: O7, O8, O13, O16.
-/

namespace Sys2Proof.Machine

/-! ### The bytes that take no decision (R29, R33, R66, R183, R186) -/

/-- Settles O7: a stored byte by `State.byteArrives_first` and `State.byteArrives_param`, an excess byte by
`State.byteArrives_excess` and the instruction. -/
theorem byteArrivalStores : Obligations.ByteArrivalStores := by
  intro b s
  refine ⟨fun h hc hA1 hA9 hD4 => ?_, fun o ps h hc hl => ?_, fun o ps h hl hc hne => ?_, fun h hc => ?_⟩
  · rw [State.byteArrives_first h hc]
    · rfl
    · intro o ho
      have hcode := Opcode.code_of_ofByte ho
      refine ⟨?_, ?_, ?_⟩ <;> rintro rfl
      · exact hA1 hcode
      · exact hA9 hcode
      · exact hD4 hcode
  · have hcount : s.port.count = (o.code :: ps).length := by rw [hc, List.length_cons, Nat.add_comm]
    have hlen : (ps ++ [b]).length = ps.length + 1 := List.length_append
    have harr : s.arrived (o.code :: (ps ++ [b])) =
        { s with port := { s.port with bytes := o.code :: (ps ++ [b]), count := s.port.count + 1 } } := by
      rw [State.arrived, Port.having, List.length_cons, hlen, hc, Nat.add_comm 1]
    rw [State.byteArrives_param h hcount (qs := ps ++ [b]) rfl (by omega), ← harr, hlen]
    rcases hl with hlt | ⟨heq, rfl | rfl⟩
    · rw [if_neg hlt.ne]
    · rw [if_pos heq]; rfl
    · rw [if_pos heq]; rfl
  · have hb : s.port.bytes = o.code :: ps := h.bytes_eq hc
    have hop : s.countByte.port.op = some o := Port.op_of_bytes hb
    rw [State.byteArrives_excess b h hl hc]
    by_cases hpost : o = .post
    · subst hpost
      have hreq : s.countByte.port.postRequired = 7 + (ps.getD 3 0#8).toNat := by
        rw [Port.postRequired, Port.param_of_bytes (p := s.countByte.port) hb]
      rw [State.excessByte_post _ _ hop]
      refine ⟨fun r _ hr h7 hlt => ?_, fun hout => ?_⟩
      · rw [State.storePayload_of_within (s := s.countByte) b hr h7 (hreq ▸ hlt)]
        rfl
      · rw [State.storePayload_of_outside (s := s.countByte) b (hreq.symm ▸ hout.resolve_left fun h => h rfl)]
        rfl
    · rw [State.excessByte_other _ _ hop hpost hne]
      exact ⟨fun r ho => absurd ho hpost, fun _ => rfl⟩
  · have hb : s.port.bytes = [0xB2#8] := h.bytes_eq hc
    have hop : s.countByte.port.op = some .readStationChanges := Port.op_of_bytes hb
    rw [State.byteArrives_excess (o := .readStationChanges) b h rfl hc, State.excessByte_changes _ _ hop]
    refine ⟨fun n hn hclocked => ⟨s.changeByte n, ?_, s.changeByte_getLsbD n⟩, fun hbegun => ?_⟩
    · rw [State.beginChangeByte_of_unbegun (s := s.countByte) hn hclocked]
      rfl
    · rw [State.beginChangeByte_of_begun (s := s.countByte) hbegun]
      rfl

/-! ### The conditions of the rows that name an effect of the rise (R146, R158, R170) -/

theorem Port.summaryClocked_eq {p : Port} (hop : p.op = some .collect ∨ p.op = some .collectNext)
    (hn : p.named.isSome = true) (hc : 5 ≤ p.clocked) : p.summaryClocked = true := by
  rcases hop with hop | hop <;> simp [Port.summaryClocked, hop, hn, hc]

theorem Port.ackReady_eq {p : Port} (hop : p.op = some .ackAttention) (ht : p.taken = true)
    (hr : p.response.head? = some 0#8) (hc : 2 ≤ p.clocked) (hv : p.ackVoid = false) : p.ackReady = true := by
  obtain ⟨rest, hrest⟩ := List.head?_eq_some_iff.mp hr
  simp [Port.ackReady, hop, ht, hrest, hc, hv, ResultCode.byte]

theorem Port.finishedReported_eq {p : Port} (hop : p.op = some .readLine) (ht : p.taken = true)
    (hr : (p.response.getD 1 0#8).getLsbD 7 = true) (hc : 2 ≤ p.clocked) : p.finishedReported = true := by
  rw [Port.finishedReported, hop, ht, hr, decide_eq_true hc]
  rfl

/-! ### The taking of an instruction (R31, R66, R146, R158, R170, R185, R186, R188, R196) -/

/-- Settles O8: the last byte by `State.byteArrives_last`, the rise of CSn by `State.transactionEnd_eq_riseThrough` and
`State.transactionEnd_eq_riseWhen`. -/
theorem instructionTaken : Obligations.InstructionTaken := by
  refine ⟨fun s a b c d => ⟨fun h hc => ⟨?_, ?_, ?_⟩, fun f h hc => ⟨?_, ?_, ?_, ?_, ?_, ?_, ?_⟩,
    fun f h hc => ⟨?_, ?_, ?_, ?_⟩, fun h hc => ?_⟩, fun s hcsn => ⟨fun a h hc => ?_, fun a b v h hc => ?_,
    fun h hc => ?_, fun h hc => ?_, fun a b c d h hc hr => ?_, fun bs hbs h hc hn hclk => ?_, fun h hc => ?_,
    fun a h hc ht hr hclk hv => ?_, fun a h hc ht hr hclk => ?_, fun f h hc hf => ?_⟩⟩
  · exact State.byteArrives_last (o := .readStatus) h hc rfl rfl rfl
  · exact State.byteArrives_last (o := .collectNext) h hc rfl rfl rfl
  · exact State.byteArrives_last (o := .readErrors) h hc rfl rfl rfl
  · rintro rfl; exact State.byteArrives_last (o := .readStation) h hc rfl rfl rfl
  · rintro rfl; exact State.byteArrives_last (o := .enableStation) h hc rfl rfl rfl
  · rintro rfl; exact State.byteArrives_last (o := .disableStation) h hc rfl rfl rfl
  · rintro rfl; exact State.byteArrives_last (o := .ackAttention) h hc rfl rfl rfl
  · rintro rfl; exact State.byteArrives_last (o := .readLine) h hc rfl rfl rfl
  · rintro rfl; exact State.byteArrives_last (o := .quiesceLine) h hc rfl rfl rfl
  · rintro rfl; exact State.byteArrives_last (o := .resumeLine) h hc rfl rfl rfl
  · rintro rfl; exact State.byteArrives_last (o := .cancel) h hc rfl rfl rfl
  · rintro rfl; exact State.byteArrives_last (o := .collect) h hc rfl rfl rfl
  · rintro rfl; exact State.byteArrives_last (o := .readRecord) h hc rfl rfl rfl
  · rintro rfl; exact State.byteArrives_last (o := .readParameter) h hc rfl rfl rfl
  · exact State.byteArrives_last (o := .post) h hc rfl rfl rfl
  · exact State.transactionEnd_eq_riseThrough (o := .lineReset) h rfl hc hcsn rfl
  · refine State.transactionEnd_eq_riseThrough (o := .setParameter) h rfl hc hcsn ?_
    funext u
    exact congrArg (fun w => u.writeParameter a.toNat b.toNat w) (wordOf_highByte_lowByte v)
  · exact State.transactionEnd_eq_riseThrough (o := .clearErrors) h rfl hc hcsn rfl
  · exact State.transactionEnd_eq_riseThrough (o := .softReset) h rfl hc hcsn rfl
  · have hop : s.port.op = some .post := Port.op_of_bytes (h.bytes_eq hc)
    exact State.transactionEnd_eq_riseWhen (o := .post) h rfl hc hcsn (by rw [hop, hr]; rfl) rfl
  · rcases hbs with rfl | ⟨a, b, rfl⟩
    · have hop : s.port.op = some .collectNext := Port.op_of_bytes (h.bytes_eq hc)
      exact State.transactionEnd_eq_riseWhen (o := .collectNext) h rfl hc hcsn
        (Port.summaryClocked_eq (.inr hop) hn hclk) rfl
    · have hop : s.port.op = some .collect := Port.op_of_bytes (h.bytes_eq hc)
      exact State.transactionEnd_eq_riseWhen (o := .collect) h rfl hc hcsn
        (Port.summaryClocked_eq (.inl hop) hn hclk) rfl
  · have hop : s.port.op = some .readStationChanges := Port.op_of_bytes (h.bytes_eq hc)
    exact State.transactionEnd_eq_riseWhen (o := .readStationChanges) h rfl hc hcsn (by rw [hop]; rfl) rfl
  · have hop : s.port.op = some .ackAttention := Port.op_of_bytes (h.bytes_eq hc)
    exact State.transactionEnd_eq_riseWhen (o := .ackAttention) h rfl hc hcsn
      (Port.ackReady_eq hop ht hr hclk hv) rfl
  · have hop : s.port.op = some .readLine := Port.op_of_bytes (h.bytes_eq hc)
    exact State.transactionEnd_eq_riseWhen (o := .readLine) h rfl hc hcsn
      (Port.finishedReported_eq hop ht hr hclk) rfl
  · rw [State.transactionEnd_unknown h hc hf hcsn]
    show _ = Host.Outcome.next _
    rw [if_pos (by rw [hf]; rfl), State.riseThrough_of_arrived _ h hc]

/-! ### The refusals of a POST (R27, R28, R30) -/

/-- The admission decision of a POST, taken when its fourth header byte arrives. -/
theorem exec_postAdmission {s : State} {h1 h2 h3 h4 : Byte} (ha : s.Awaiting [0xA4#8, h1, h2, h3, h4]) :
    exec (.postAdmission h1 h2 h3 h4) s =
      .next (takePostAdmission h1 h2 h3 h4 (s.arrived [0xA4#8, h1, h2, h3, h4])) :=
  congrArg Host.Outcome.next (State.arriveThrough_eq (o := .post) (takePostAdmission h1 h2 h3 h4) ha)

/-- A POST whose first failing check gives the code is answered with it, and with nothing else. -/
theorem exec_postAdmission_refused {s : State} {h1 h2 h3 h4 : Byte} {h : PostHeader} {c : AdmissionCode}
    (ha : s.Awaiting [0xA4#8, h1, h2, h3, h4]) (hp : parsePostHeader h1 h2 h3 h4 = some h)
    (hc : s.admissionRefusal h = some c) :
    exec (.postAdmission h1 h2 h3 h4) s =
      .next (s.answered [0xA4#8, h1, h2, h3, h4] [byteOf c.value, 0xFF#8]) := by
  have hc' : (s.arrived [0xA4#8, h1, h2, h3, h4]).admissionRefusal h = some c := hc
  rw [exec_postAdmission ha]
  simp only [takePostAdmission, hp, hc']
  rfl

theorem State.admissionRefusal_of_link {s : State} {h : PostHeader} (hl : (s.line (lineOf h.station)).link ≠ .up) :
    s.admissionRefusal h = some .lineNotUp := if_pos hl

theorem State.admissionRefusal_of_service {s : State} {h : PostHeader} (hl : (s.line (lineOf h.station)).link = .up)
    (hs : (s.line (lineOf h.station)).service ≠ .opened) : s.admissionRefusal h = some .lineQuiesced :=
  (if_neg (not_not_intro hl)).trans (if_pos hs)

/-- On an OPEN line that is UP the station's state decides, and for a PRESENT station the free count. -/
theorem State.admissionRefusal_of_station {s : State} {h : PostHeader} (hl : (s.line (lineOf h.station)).link = .up)
    (hs : (s.line (lineOf h.station)).service = .opened) :
    ((s.entry h.station).state = .absent → s.admissionRefusal h = some .stationAbsent) ∧
    ((s.entry h.station).state = .lost → s.admissionRefusal h = some .stationLost) ∧
    ((s.entry h.station).state = .disabled → s.admissionRefusal h = some .stationDisabled) ∧
    ((s.entry h.station).state = .present → h.priority = .normal → s.freeCount ≤ s.params.urgentReserve →
      s.admissionRefusal h = some .tableFull) ∧
    ((s.entry h.station).state = .present → h.priority = .urgent → s.freeCount = 0 →
      s.admissionRefusal h = some .tableFull) := by
  simp only [State.admissionRefusal, hl, hs, ne_eq, not_true_eq_false, if_false]
  refine ⟨fun he => ?_, fun he => ?_, fun he => ?_, fun he hp hf => ?_, fun he hp hf => ?_⟩
  · rw [he]
  · rw [he]
  · rw [he]
  · simp only [he, hp, if_pos hf]
  · simp only [he, hp, if_pos hf]

/-- Settles O13: the checks of R27 one after the other, each by the code that its failure gives. -/
theorem postRefused : Obligations.PostRefused := by
  intro s h1 h2 h3 h4 ha
  refine ⟨fun hp => ?_, fun h hp => ⟨fun hl => ?_, fun hl hs => ?_, fun hl hs => ?_⟩⟩
  · rw [exec_postAdmission ha]
    simp only [takePostAdmission, hp]
    rfl
  · exact exec_postAdmission_refused ha hp (State.admissionRefusal_of_link hl)
  · exact exec_postAdmission_refused ha hp (State.admissionRefusal_of_service hl hs)
  · obtain ⟨habsent, hlost, hdisabled, hnormal, hurgent⟩ := State.admissionRefusal_of_station hl hs
    refine ⟨fun he => exec_postAdmission_refused ha hp (habsent he),
      fun he => exec_postAdmission_refused ha hp (hlost he),
      fun he => exec_postAdmission_refused ha hp (hdisabled he), fun he hfull => ?_⟩
    cases hprio : h.priority with
    | normal => rw [hprio] at hfull; exact exec_postAdmission_refused ha hp (hnormal he hprio hfull)
    | urgent => rw [hprio] at hfull; exact exec_postAdmission_refused ha hp (hurgent he hprio hfull)

/-! ### CANCEL (R36 to R42) -/

/-- Settles O16: the decision of R36 by what the handle resolves to, and of a live record by its sequence. -/
theorem cancel : Obligations.Cancel := by
  intro s a b ha
  have hexec : exec (.cancel a b) s = .next (takeCancel a b (s.arrived [0xA6#8, a, b])) :=
    congrArg Host.Outcome.next (State.arriveThrough_eq (o := .cancel) (takeCancel a b) ha)
  have hres : (s.arrived [0xA6#8, a, b]).resolve a b = s.resolve a b := rfl
  have hrec : ∀ r, (s.arrived [0xA6#8, a, b]).record r = s.record r := fun _ => rfl
  rw [hexec]
  refine ⟨fun h => ?_, fun h => ?_, fun r h => ?_⟩
  · simp only [takeCancel, hres, h]; rfl
  · simp only [takeCancel, hres, h]; rfl
  · simp only [takeCancel, hres, h, hrec]
    refine ⟨fun ht => ?_, fun hlive hq => ?_, fun q hlive hq => ?_⟩
    · rw [if_pos ht]; rfl
    · simp only [RecState.not_terminal_of_live hlive, hlive, State.cancelRecord, hrec, hq]; rfl
    · simp only [RecState.not_terminal_of_live hlive, hlive, State.cancelRecord, hrec, hq]; rfl

end Sys2Proof.Machine
end

section
/-!
The statement about frame headers, the frame check, the POST header and opcodes: O60.
-/

namespace Sys2Proof.Machine

/-! ### The frame check (R102) -/

/-- The check register takes the bits of all bytes one after the other. -/
theorem crc16_serial (bs : List Byte) :
    crc16 bs = (bs.flatMap (fun b => (List.range 8).map (fun k => b.getLsbD (7 - k)))).foldl crcBit 0xFFFF#16 := by
  rw [crc16, List.foldl_flatMap]
  congr 1
  funext c b
  exact crcByte_serial c b

/-! ### The header bytes of a frame (R101, R202) -/

theorem FrameKind.code_lt (k : FrameKind) : k.code < 16 := by cases k <;> decide

theorem bitValue_eq (b : Bool) (w : Nat) : bitValue b w = w * b.toNat := by cases b <;> simp [bitValue]

/-- The first byte of a header: the kind in bits 7 to 4, bit 3 zero, and the drop (R202). -/
theorem firstHeaderByte (c : Nat) (d : DropNo) (hc : c < 16) :
    (byteOf (c * 16 + d.val)).toNat / 16 = c ∧ (byteOf (c * 16 + d.val)).getLsbD 3 = false ∧
      (byteOf (c * 16 + d.val)).toNat % 8 = d.val := by
  have hd := d.isLt
  rw [byteOf_getLsbD, byteOf_toNat (by omega), Nat.testBit_eq_decide_div_mod_eq]
  refine ⟨by omega, ?_, by omega⟩
  have h3 : (c * 16 + d.val) / 2 ^ 3 % 2 = 0 := by omega
  rw [h3]
  rfl

/-- The second byte of a header: the sequence in bits 7 to 4, LAST, REPEAT, and the segment (R202). -/
theorem secondHeaderByte (q : SeqNo) (last rep : Bool) (g : Fin 4) :
    (byteOf (q.val * 16 + bitValue last 8 + bitValue rep 4 + g.val)).toNat / 16 = q.val ∧
      (byteOf (q.val * 16 + bitValue last 8 + bitValue rep 4 + g.val)).getLsbD 3 = last ∧
      (byteOf (q.val * 16 + bitValue last 8 + bitValue rep 4 + g.val)).getLsbD 2 = rep ∧
      (byteOf (q.val * 16 + bitValue last 8 + bitValue rep 4 + g.val)).toNat % 4 = g.val := by
  have hq := q.isLt
  have hg := g.isLt
  have hl := last.toNat_le
  have hr := rep.toNat_le
  rw [bitValue_eq, bitValue_eq, byteOf_getLsbD, byteOf_getLsbD, byteOf_toNat (by omega),
    Nat.testBit_eq_decide_div_mod_eq, Nat.testBit_eq_decide_div_mod_eq]
  have h3 : (q.val * 16 + 8 * last.toNat + 4 * rep.toNat + g.val) / 2 ^ 3 % 2 = last.toNat := by omega
  have h2 : (q.val * 16 + 8 * last.toNat + 4 * rep.toNat + g.val) / 2 ^ 2 % 2 = rep.toNat := by omega
  rw [h3, h2]
  exact ⟨by omega, by cases last <;> rfl, by cases rep <;> rfl, by omega⟩

/-- The code of an upstream frame's kind names that kind (R107, R202). -/
theorem FrameKind.upstreamOfCode_code {k : FrameKind}
    (h : k = .reply ∨ k = .holdoff ∨ k = .probeAnswer ∨ k = .attention ∨ k = .quiesceAck) :
    FrameKind.upstreamOfCode k.code = some k := by
  rcases h with rfl | rfl | rfl | rfl | rfl <;> rfl

/-- The header of an upstream frame, read again, passes the check of R107 and gives the frame's kind and fields. -/
theorem header_readBack (f : UpFields) {k : FrameKind} (hlen : f.payload.length ≤ 32)
    (hk : FrameKind.upstreamOfCode k.code = some k) :
    ∃ h1 h2 h3 h4, (f.frame k).header = [h1, h2, h3, h4] ∧ headerGood h1 h4 = true ∧ kindOfHeader h1 = some k ∧
      fieldsOf h1 h2 h3 f.payload = f ∧ h4.toNat = f.payload.length := by
  obtain ⟨hkind, hzero, hdrop⟩ := firstHeaderByte k.code f.drop k.code_lt
  obtain ⟨hseq, hlast, hrep, hseg⟩ := secondHeaderByte f.seq f.last f.rep f.segment
  have hl4 : (byteOf f.payload.length).toNat = f.payload.length := byteOf_toNat (by omega)
  refine ⟨_, _, _, _, rfl, ?_, ?_, ?_, hl4⟩
  · rw [headerGood, UpFields.frame, hzero, hkind, hk, hl4]
    exact decide_eq_true hlen
  · rw [kindOfHeader, UpFields.frame, hkind, hk]
  · have hd : dropOfHeader (byteOf (k.code * 16 + f.drop.val)) = f.drop := Fin.ext hdrop
    have hq : seqOfHeader (byteOf (f.seq.val * 16 + bitValue f.last 8 + bitValue f.rep 4 + f.segment.val)) = f.seq :=
      Fin.ext hseq
    simp only [fieldsOf, UpFields.frame, hd, hq, hseg, hlast, hrep]

/-! ### The POST header (R26, R199) -/

theorem parsePostHeader_none {h1 h2 h3 h4 : Byte}
    (h : 64 ≤ h1.toNat ∨ h2.toNat / 16 % 8 ≠ 0 ∨ 3 < h3.toNat / 16 ∨ 3 < h3.toNat % 16 ∨ 32 < h4.toNat) :
    parsePostHeader h1 h2 h3 h4 = none := by
  unfold parsePostHeader
  split
  · rfl
  · rename_i st hst
    have h1lt : h1.toNat < 64 := by
      by_contra hge
      rw [stationOfByte_none (Nat.not_lt.mp hge)] at hst
      cases hst
    split
    · rename_i hfixed
      obtain ⟨hzero, hbudget, hlength⟩ := hfixed
      have hmax : h4.toNat ≤ 32 := hlength
      exact dif_neg (by omega)
    · rfl

theorem parsePostHeader_some {h1 h2 h3 h4 : Byte} {st : StationIdx} (hst : h1.toNat = st.val)
    (hzero : h2.toNat / 16 % 8 = 0) (hbudget : h3.toNat / 16 ≤ 3) (hclass : h3.toNat % 16 ≤ 3)
    (hlength : h4.toNat ≤ 32) :
    parsePostHeader h1 h2 h3 h4 = some
      { station := st
        priority := if h2.getLsbD 7 then .urgent else .normal
        opClass := ⟨h2.toNat % 16, by omega⟩
        deadlineClass := ⟨h3.toNat % 16, by omega⟩
        retryBudget := h3.toNat / 16
        length := h4.toNat } := by
  unfold parsePostHeader
  rw [stationOfByte_some hst]
  exact (if_pos ⟨hzero, hbudget, hlength⟩).trans (dif_pos (by omega))

/-! ### All formats together -/

/-- Settles O60: the check by `crc16_serial`, the headers by the lemmas of their bytes, the POST header by
its two cases. -/
theorem headersAndOpcodesReadBack : Obligations.HeadersAndOpcodesReadBack := by
  refine ⟨fun bs => ⟨rfl, crc16_serial bs⟩, fun f hlen => ⟨rfl, ?_⟩, fun x q => rfl, fun d q c => ⟨rfl, rfl, rfl, rfl⟩,
    fun f k hlen hk => header_readBack f hlen (FrameKind.upstreamOfCode_code hk),
    fun h1 h2 h3 h4 => ⟨parsePostHeader_none, fun st hst hzero hbudget hclass hlength => ?_⟩, Opcode.ofByte_code,
    fun b o => Opcode.code_of_ofByte⟩
  · obtain ⟨hkind, hzero, hdrop⟩ := firstHeaderByte f.kind.code f.drop f.kind.code_lt
    obtain ⟨hseq, hlast, hrep, hseg⟩ := secondHeaderByte f.seq f.last f.rep f.segment
    exact ⟨_, _, _, _, rfl, hkind.trans (by cases f.kind <;> rfl), hzero, hdrop, hseq, hlast, hrep, hseg, rfl,
      byteOf_toNat (by omega)⟩
  · refine ⟨_, parsePostHeader_some hst hzero hbudget hclass hlength, rfl, ?_, rfl, rfl, rfl, rfl⟩
    cases h2.getLsbD 7 <;> simp

end Sys2Proof.Machine
end

section
/-!
The sequences of the stations (R50, R51, R70 to R73): what an event must do to them for the laws of `State.HeldLawful` to
stay. An event sheds sequences, of which the records that hold one become fewer and only a sequence given up is fenced, or
it takes one at a dispatch, where the arbiter has found room in the window and a free sequence.
-/

namespace Sys2Proof.Machine

/-! ### What is kept -/

/-- A sequence is carried only by a record that holds it, and a record in flight has been transmitted. -/
structure Record.SeqFit (x : Record) : Prop where
  holds : x.seq.isSome = true → x.holds = true
  sent : x.state.inFlight = true → 1 ≤ x.transmissions

theorem Record.Shaped.seqFit {x : Record} (h : x.Shaped) : x.SeqFit := ⟨fun hs => h.seq ▸ hs, h.sent⟩

/-- A record without a sequence that is not in flight. -/
theorem Record.seqFit_of_idle {x : Record} (hs : x.seq = none) (hf : x.state.inFlight = false) : x.SeqFit :=
  ⟨fun h => absurd h (by simp [hs]), fun h => absurd h (by simp [hf])⟩

theorem Record.holds_of_inFlight {x : Record} (h : x.state.inFlight = true) : x.holds = true := by
  simp [Record.holds, h]

/-- A record in flight has been transmitted, and so has a QUEUED one that holds its sequence (R4). -/
theorem Record.SeqFit.transmitted {x : Record} (h : x.SeqFit) (hh : x.holds = true) : 1 ≤ x.transmissions := by
  rw [Record.holds, Bool.or_eq_true, Bool.and_eq_true, decide_eq_true_eq] at hh
  rcases hh with hf | ⟨-, ht⟩
  · exact h.sent hf
  · exact ht

theorem Record.ended_not_holds (o : ExchOutcome) (x : Record) : (x.ended o).holds = false := by
  simp only [Record.ended]
  split <;> rfl

theorem Record.seqFit_ended (o : ExchOutcome) (x : Record) : (x.ended o).SeqFit := (Record.shaped_ended o x).seqFit

/-- The laws of the sequences, with what an event needs to keep them. -/
structure State.HeldFit (s : State) : Prop where
  records : ∀ r, (s.record r).SeqFit
  limits : ∀ n : LineNo, s.params.windowLimit[n.val] ≤ 4
  lawful : s.HeldLawful

/-- An event after which the laws of the sequences hold, if they held before it. -/
def State.KeepsHeld (s t : State) : Prop := s.HeldFit → t.HeldFit

theorem State.KeepsHeld.refl (s : State) : s.KeepsHeld s := id

theorem State.KeepsHeld.trans {s t u : State} (h : s.KeepsHeld t) (k : t.KeepsHeld u) : s.KeepsHeld u := k ∘ h

/-! ### The records that hold a sequence of a station -/

/-- The records that hold a sequence of a station, as a set. -/
def State.holders (s : State) (st : StationIdx) : Finset RecordIdx :=
  Finset.univ.filter fun r => (s.record r).holds = true ∧ (s.record r).station = st

theorem State.mem_holders {s : State} {st : StationIdx} {r : RecordIdx} :
    r ∈ s.holders st ↔ (s.record r).holds = true ∧ (s.record r).station = st := by
  simp [State.holders]

/-- The table as the list of its records in ascending index. -/
theorem State.records_toList (s : State) : s.records.toList = (List.finRange 48).map s.record := by
  refine List.ext_getElem (by simp) fun i h1 h2 => ?_
  simp [State.record]

theorem State.heldCount_eq_card (s : State) (st : StationIdx) : s.heldCount st = (s.holders st).card := by
  rw [State.heldCount, State.records_toList, List.countP_map, List.countP_eq_length_filter]
  rw [State.holders, Finset.card, Finset.filter_val, Fin.univ_def]
  simp [Multiset.filter_coe, Function.comp_def, beq_eq_decide]

/-- The records that hold a sequence of the station before are all that do after, so their count is no larger. -/
theorem State.heldCount_le {s t : State} {st : StationIdx} (h : t.holders st ⊆ s.holders st) :
    t.heldCount st ≤ s.heldCount st := by
  rw [State.heldCount_eq_card, State.heldCount_eq_card]
  exact Finset.card_le_card h

theorem State.heldCount_eq_zero {s : State} {st : StationIdx}
    (h : ∀ r, (s.record r).holds = true → (s.record r).station ≠ st) : s.heldCount st = 0 := by
  rw [State.heldCount_eq_card, Finset.card_eq_zero, Finset.eq_empty_iff_forall_notMem]
  intro r hr
  obtain ⟨hh, hst⟩ := State.mem_holders.mp hr
  exact h r hh hst

theorem State.effectiveWindow_congr {s t : State} {st : StationIdx} (hw : (t.entry st).window = (s.entry st).window)
    (hl : t.params.windowLimit = s.params.windowLimit) : t.effectiveWindow st = s.effectiveWindow st := by
  simp only [State.effectiveWindow, hw, hl]

/-! ### Shedding sequences -/

/-- No record comes to hold a sequence, only a sequence given up is fenced, and a window changes only where no record
holds a sequence. -/
structure State.Sheds (s t : State) : Prop where
  fit : ∀ r, (s.record r).SeqFit → (t.record r).SeqFit
  limits : t.params.windowLimit = s.params.windowLimit
  held : ∀ r, (t.record r).holds = true →
    (s.record r).holds = true ∧ (t.record r).station = (s.record r).station ∧ (t.record r).seq = (s.record r).seq
  fences : ∀ (st : StationIdx) (q : SeqNo), (t.entry st).fence[q.val] ≠ none → (s.entry st).fence[q.val] ≠ none ∨
    ∃ r, (s.record r).station = st ∧ (s.record r).seq = some q ∧ (t.record r).holds = false
  windows : ∀ st, (t.entry st).window = (s.entry st).window ∨
    ∀ r, (t.record r).holds = true → (t.record r).station ≠ st

theorem State.Sheds.holders_subset {s t : State} (h : s.Sheds t) (st : StationIdx) : t.holders st ⊆ s.holders st := by
  intro r hr
  obtain ⟨hh, hst⟩ := State.mem_holders.mp hr
  obtain ⟨h1, h2, -⟩ := h.held r hh
  exact State.mem_holders.mpr ⟨h1, h2 ▸ hst⟩

theorem State.Sheds.keepsHeld {s t : State} (h : s.Sheds t) : s.KeepsHeld t := by
  rintro ⟨hfit, hlim, hwin, hfour, honce, hunf⟩
  refine ⟨fun r => h.fit r (hfit r), fun n => h.limits ▸ hlim n, fun st => ?_, fun st => ?_, fun r i hr hi hst hseq => ?_,
    fun r q hr hq => ?_⟩
  · rcases h.windows st with hw | hnone
    · rw [State.effectiveWindow_congr hw h.limits]
      exact (State.heldCount_le (h.holders_subset st)).trans (hwin st)
    · rw [State.heldCount_eq_zero hnone]
      exact Nat.zero_le _
  · exact (State.heldCount_le (h.holders_subset st)).trans (hfour st)
  · obtain ⟨hr1, hr2, hr3⟩ := h.held r hr
    obtain ⟨hi1, hi2, hi3⟩ := h.held i hi
    exact honce r i hr1 hi1 (by rw [← hr2, ← hi2, hst]) (by rw [← hr3, ← hi3, hseq])
  · obtain ⟨hr1, hr2, hr3⟩ := h.held r hr
    by_contra hf
    rw [hr2] at hf
    rw [hr3] at hq
    rcases h.fences _ _ hf with hs | ⟨i, hist, hiseq, hi⟩
    · exact hs (hunf r q hr1 hq)
    · have hih := (hfit i).holds (by rw [hiseq]; rfl)
      obtain rfl := honce r i hr1 hih hist.symm (hq.trans hiseq.symm)
      rw [hr] at hi
      cases hi

/-- The entries alone change: no fence is set, and a window changes only where no record holds a sequence. -/
theorem State.sheds_of_entries {s t : State} (hr : t.records = s.records)
    (hl : t.params.windowLimit = s.params.windowLimit)
    (hf : ∀ (st : StationIdx) (q : SeqNo), (t.entry st).fence[q.val] ≠ none → (s.entry st).fence[q.val] ≠ none)
    (hw : ∀ st, (t.entry st).window = (s.entry st).window ∨ ∀ r, (s.record r).holds = true → (s.record r).station ≠ st) :
    s.Sheds t := by
  have hrec : ∀ r, t.record r = s.record r := State.record_congr hr
  exact ⟨fun r => by rw [hrec]; exact id, hl, fun r => by rw [hrec]; exact fun h => ⟨h, rfl, rfl⟩,
    fun st q h => .inl (hf st q h), fun st => (hw st).imp id fun h r => by rw [hrec]; exact h r⟩

/-- One record takes another value, which holds a sequence only if it is the one that the record held. -/
theorem State.sheds_of_record {s t : State} (r : RecordIdx) {x : Record}
    (hrec : ∀ i, t.record i = if i = r then x else s.record i) (hs : t.stations = s.stations)
    (hl : t.params.windowLimit = s.params.windowLimit) (hfit : (s.record r).SeqFit → x.SeqFit)
    (hx : x.holds = true → (s.record r).holds = true ∧ x.station = (s.record r).station ∧ x.seq = (s.record r).seq) :
    s.Sheds t := by
  refine ⟨fun i => ?_, hl, fun i => ?_, fun st q => ?_, fun st => .inl ?_⟩
  · rw [hrec]
    split
    · subst i; exact hfit
    · exact id
  · rw [hrec]
    split
    · subst i; exact hx
    · exact fun h => ⟨h, rfl, rfl⟩
  · rw [State.entry_congr hs]; exact .inl
  · rw [State.entry_congr hs]

/-- Nothing of the sequences changes. -/
structure State.SameSequences (s t : State) : Prop where
  records : t.records = s.records
  fences : ∀ st, (t.entry st).fence = (s.entry st).fence
  windows : ∀ st, (t.entry st).window = (s.entry st).window
  limits : t.params.windowLimit = s.params.windowLimit

theorem State.SameSequences.refl (s : State) : s.SameSequences s := ⟨rfl, fun _ => rfl, fun _ => rfl, rfl⟩

theorem State.SameSequences.trans {s t u : State} (h : s.SameSequences t) (k : t.SameSequences u) : s.SameSequences u :=
  ⟨k.records.trans h.records, fun st => (k.fences st).trans (h.fences st), fun st => (k.windows st).trans (h.windows st),
    k.limits.trans h.limits⟩

theorem State.SameSequences.keepsHeld {s t : State} (h : s.SameSequences t) : s.KeepsHeld t :=
  (State.sheds_of_entries h.records h.limits (fun st q => by rw [h.fences]; exact id) fun st => .inl (h.windows st)).keepsHeld

theorem State.sameSequences_of_same (s : State) {t : State} (hr : t.records = s.records) (hs : t.stations = s.stations)
    (hp : t.params = s.params) : s.SameSequences t :=
  ⟨hr, fun st => by rw [State.entry_congr hs], fun st => by rw [State.entry_congr hs], by rw [hp]⟩

theorem State.sameSequences_setLine (s : State) (n : LineNo) (l : Line) : s.SameSequences (s.setLine n l) :=
  s.sameSequences_of_same rfl rfl rfl

theorem State.sameSequences_setEntry (s : State) (st : StationIdx) {e : Entry}
    (hf : e.fence = (s.entry st).fence := by rfl) (hw : e.window = (s.entry st).window := by rfl) :
    s.SameSequences (s.setEntry st e) := by
  refine ⟨rfl, fun i => ?_, fun i => ?_, rfl⟩ <;> rw [State.entry_setEntry] <;> split
  · subst i; exact hf
  · rfl
  · subst i; exact hw
  · rfl

theorem State.sameSequences_mapLineEntries (s : State) (n : LineNo) {f : Entry → Entry}
    (hf : ∀ e, (f e).fence = e.fence) (hw : ∀ e, (f e).window = e.window) :
    s.SameSequences (s.mapLineEntries n f) := by
  refine ⟨by simp [State.mapLineEntries], fun st => ?_, fun st => ?_, by simp [State.mapLineEntries]⟩ <;>
    rw [State.entry_mapLineEntries] <;> split
  · exact hf _
  · rfl
  · exact hw _
  · rfl

theorem State.sameSequences_mapLines (s : State) (f : LineNo → Line → Line) : s.SameSequences (s.mapLines f) :=
  s.sameSequences_of_same (by simp) (by simp [State.mapLines]) (by simp)

theorem State.sameSequences_foldl {α : Type} (f : State → α → State) (hf : ∀ (s : State) (a : α), s.SameSequences (f s a))
    (as : List α) (s : State) : s.SameSequences (as.foldl f s) := by
  induction as generalizing s with
  | nil => exact State.SameSequences.refl s
  | cons a as ih => exact (hf s a).trans (ih (f s a))

theorem State.sameSequences_report (s : State) (o : Occurrence) : s.SameSequences (s.report o) :=
  s.sameSequences_of_same rfl rfl rfl

theorem State.sameSequences_offer (n : LineNo) (c : ControlFrame) (s : State) : s.SameSequences (s.offer n c) :=
  s.sameSequences_of_same (s.offer_records n c) (s.offer_stations n c) (s.quiet_offer n c).rest.params

theorem State.sameSequences_offerAll (n : LineNo) (cs : List ControlFrame) (s : State) :
    s.SameSequences (s.offerAll n cs) :=
  State.sameSequences_foldl _ (fun s c => s.sameSequences_offer n c) cs s

theorem State.sameSequences_testAcks (n : LineNo) (s : State) : s.SameSequences (s.testAcks n) :=
  s.sameSequences_of_same (s.testAcks_records n) (s.testAcks_stations n) (s.quiet_testAcks n).rest.params

theorem State.sameSequences_serviceTests (n : LineNo) (s : State) : s.SameSequences (s.serviceTests n) := by
  refine State.SameSequences.trans ?_ (State.sameSequences_testAcks n _)
  unfold State.testDrain
  split
  · exact (((s.sameSequences_mapLineEntries n (f := fun e => { e with ackMark := false }) (fun _ => rfl)
      fun _ => rfl).trans (State.sameSequences_setLine _ n _)).trans (State.sameSequences_offerAll n _ _)).trans
      (State.sameSequences_testAcks n _)
  · exact State.SameSequences.refl s

theorem State.sameSequences_probeOne (n : LineNo) (s : State) (d : DropNo) : s.SameSequences (s.probeOne n d) := by
  unfold State.probeOne
  split
  · have he : (s.offer n (.probe d)).entry (stationAt n d) = s.entry (stationAt n d) :=
      State.entry_congr (s.offer_stations n _) _
    exact (s.sameSequences_offer n _).trans (State.sameSequences_setEntry _ _ (by rw [he]; rfl) (by rw [he]; rfl))
  · exact State.SameSequences.refl s

theorem State.sameSequences_probeSweep (n : LineNo) (s : State) : s.SameSequences (s.probeSweep n) :=
  State.sameSequences_foldl _ (fun s d => s.sameSequences_probeOne n d) _ s

theorem State.sameSequences_signOfLife (st : StationIdx) (s : State) : s.SameSequences (s.signOfLife st) :=
  s.sameSequences_setEntry st

/-! ### Taking a sequence at a dispatch (R11, R71, R89) -/

/-- A record as its dispatch under a sequence leaves it (R11). -/
def Record.dispatched (q : SeqNo) (x : Record) : Record :=
  { x with state := .transmitting, seq := some q, transmissions := x.transmissions + 1 }

theorem Record.seqFit_dispatched (q : SeqNo) (x : Record) : (x.dispatched q).SeqFit :=
  ⟨fun _ => rfl, fun _ => Nat.le_add_left 1 x.transmissions⟩

/-- A record goes on the wire under a sequence: the one it holds, or a free one while its station has window room. -/
theorem State.HeldFit.take {s t : State} (h : s.HeldFit) {r : RecordIdx} {q : SeqNo}
    (hrec : ∀ i, t.record i = if i = r then (s.record i).dispatched q else s.record i)
    (hf : ∀ st, (t.entry st).fence = (s.entry st).fence) (hw : ∀ st, (t.entry st).window = (s.entry st).window)
    (hl : t.params.windowLimit = s.params.windowLimit) (hroom : s.windowRoom (s.record r).station = true)
    (hfree : s.seqFree (s.record r).station q = true) : t.HeldFit := by
  have hself : t.record r = (s.record r).dispatched q := by rw [hrec, if_pos rfl]
  have hne : ∀ i, i ≠ r → t.record i = s.record i := fun i hi => by rw [hrec, if_neg hi]
  rw [State.seqFree, Bool.and_eq_true, Option.isNone_iff_eq_none, Bool.not_eq_true', State.fenced,
    Option.isSome_eq_false_iff, Option.isNone_iff_eq_none] at hfree
  obtain ⟨hholder, hfence⟩ := hfree
  have hother : ∀ i, (s.record i).holds = true → (s.record i).station = (s.record r).station →
      (s.record i).seq ≠ some q := by
    have := List.find?_eq_none.mp hholder
    simp only [List.mem_finRange, Bool.and_eq_true, beq_iff_eq, true_implies] at this
    exact fun i h1 h2 h3 => this i ⟨⟨h1, h2⟩, h3⟩
  have hwindow : ∀ st, t.effectiveWindow st = s.effectiveWindow st := fun st => State.effectiveWindow_congr (hw st) hl
  have hsub : ∀ st, st ≠ (s.record r).station → t.holders st ⊆ s.holders st := by
    intro st hst i hi
    rw [State.mem_holders] at hi ⊢
    by_cases hir : i = r
    · subst hir; rw [hself] at hi; exact absurd hi.2.symm hst
    · rwa [hne i hir] at hi
  have hcount : t.heldCount (s.record r).station ≤ s.heldCount (s.record r).station + 1 := by
    rw [State.heldCount_eq_card, State.heldCount_eq_card]
    refine (Finset.card_le_card fun i hi => ?_).trans (Finset.card_insert_le r _)
    rw [Finset.mem_insert, or_iff_not_imp_left]
    intro hir
    rw [State.mem_holders] at hi ⊢
    rwa [hne i hir] at hi
  have hlim := h.limits (lineOf (s.record r).station)
  unfold State.windowRoom at hroom
  split at hroom
  · cases hroom
  rename_i w hwin
  rw [decide_eq_true_eq] at hroom
  have hw4 : w ≤ 4 := by
    simp only [State.effectiveWindow, Option.map_eq_some_iff] at hwin
    obtain ⟨v, -, rfl⟩ := hwin
    exact (Nat.min_le_right _ _).trans hlim
  refine ⟨fun i => ?_, fun n => hl ▸ h.limits n, fun st => ?_, fun st => ?_, fun i j hi hj hst hseq => ?_,
    fun i p hi hp => ?_⟩
  · by_cases hir : i = r
    · subst hir; rw [hself]; exact Record.seqFit_dispatched q _
    · rw [hne i hir]; exact h.records i
  · rw [hwindow]
    by_cases hst : st = (s.record r).station
    · subst hst; rw [hwin, Option.getD_some]; omega
    · exact (State.heldCount_le (hsub st hst)).trans (h.lawful.window st)
  · by_cases hst : st = (s.record r).station
    · subst hst; omega
    · exact (State.heldCount_le (hsub st hst)).trans (h.lawful.four st)
  · by_cases hir : i = r <;> by_cases hjr : j = r
    · rw [hir, hjr]
    · subst hir
      rw [hself, hne j hjr] at hst hseq
      rw [hne j hjr] at hj
      exact absurd hseq.symm (hother j hj hst.symm)
    · subst hjr
      rw [hself, hne i hir] at hst hseq
      rw [hne i hir] at hi
      exact absurd hseq (hother i hi hst)
    · rw [hne i hir, hne j hjr] at hst hseq
      rw [hne i hir] at hi
      rw [hne j hjr] at hj
      exact h.lawful.once i j hi hj hst hseq
  · rw [hf]
    by_cases hir : i = r
    · subst hir
      rw [hself] at hp ⊢
      cases hp
      exact hfence
    · rw [hne i hir] at hi hp ⊢
      exact h.lawful.unfenced i p hi hp

/-- A record that the arbiter finds eligible is dispatched. -/
theorem State.keepsHeld_dispatch (n : LineNo) (h : Handle) {s : State} (he : s.eligible n h = true) :
    s.KeepsHeld (s.dispatch n h) := by
  intro hs
  unfold State.dispatch
  split
  case h_1 q hq =>
    have hheld := (hs.records h.index).holds (by rw [hq]; rfl)
    have hrec : ∀ i, (s.dispatchWith n h q).record i =
        if i = h.index then (s.record h.index).dispatched q else s.record i := fun i => by
      rw [State.record_dispatchWith]
      split
      · subst i; rfl
      · rfl
    exact (State.sheds_of_record h.index hrec rfl rfl (fun _ => Record.seqFit_dispatched q _)
      fun _ => ⟨hheld, rfl, hq.symm⟩).keepsHeld hs
  case h_2 hq =>
    simp only [State.eligible, hq, Option.isSome_none, Bool.false_or, Bool.and_eq_true] at he
    obtain ⟨-, hroom, -⟩ := he
    split
    case h_1 q hfirst =>
      have same := s.sameSequences_setEntry (s.record h.index).station
        (e := { s.entry (s.record h.index).station with cursor := q + 1 })
      exact hs.take (State.record_dispatchWith n h q _) same.fences same.windows rfl hroom (List.find?_some hfirst)
    case h_2 => exact hs

theorem State.keepsHeld_choose (s : State) (n : LineNo) : s.KeepsHeld (s.choose n) := by
  rcases State.choose_cases n s with h | ⟨-, -, -, ⟨c, rest, -, h⟩ | ⟨k, -, -, he, h⟩⟩ <;> rw [h]
  · exact State.KeepsHeld.refl s
  · exact ((s.sameSequences_setLine n _).trans (State.sameSequences_setLine _ n _)).keepsHeld
  · exact State.keepsHeld_dispatch n k he

theorem State.KeepsHeld.choose {s t : State} (h : s.KeepsHeld t) (n : LineNo) : s.KeepsHeld (t.choose n) :=
  h.trans (t.keepsHeld_choose n)

theorem State.KeepsHeld.same {s t u : State} (h : s.KeepsHeld t) (k : t.SameSequences u) : s.KeepsHeld u :=
  h.trans k.keepsHeld

theorem State.KeepsHeld.settle {s t : State} (h : s.KeepsHeld t) (n : LineNo) : s.KeepsHeld (t.settle n) :=
  (h.same (t.sameSequences_serviceTests n)).choose n

/-- Several choices after one another. -/
theorem State.keepsHeld_chooseAll (s : State) : s.KeepsHeld s.chooseAll := by
  unfold State.chooseAll
  generalize List.finRange 8 = ns
  induction ns generalizing s with
  | nil => exact State.KeepsHeld.refl s
  | cons n ns ih => exact (s.keepsHeld_choose n).trans (ih _)

end Sys2Proof.Machine
end

section
/-!
The operations of exchanges, frames, stations and lines keep the laws of the sequences.
-/

namespace Sys2Proof.Machine

/-! ### Records (R12, R15, R72, R132, R135) -/

/-- A change that is made only under a condition. -/
theorem State.keepsHeld_ite {s t : State} (c : Prop) [Decidable c] (k : c → s.KeepsHeld t) :
    s.KeepsHeld (if c then t else s) := by
  split
  · exact k ‹_›
  · exact State.KeepsHeld.refl s

/-- Records that end give their sequences up, and each given up is fenced or left free (R72). -/
theorem State.keepsHeld_endRecords (s : State) (o : ExchOutcome) (f : Bool) {rs : List RecordIdx} (hn : rs.Nodup) :
    s.KeepsHeld (s.endRecords o f rs) := by
  refine (State.Sheds.mk (fun r => ?_) ?_ (fun r => ?_) (fun st q => ?_) fun st => .inl ?_).keepsHeld
  · rw [State.record_endRecords]
    split
    · exact fun _ => Record.seqFit_ended o _
    · exact id
  · rw [(s.rest_endRecords o f rs).params]
  · rw [State.record_endRecords]
    split
    · exact fun h => absurd h (by simp [Record.ended_not_holds])
    · exact fun h => ⟨h, rfl, rfl⟩
  · rw [State.fence_endRecords o f hn]
    split
    · rename_i hc
      obtain ⟨-, r, hr, hst, hq⟩ := hc
      exact fun _ => .inr ⟨r, hst, hq, by rw [State.record_endRecords, if_pos hr]; exact Record.ended_not_holds o _⟩
    · exact .inl
  · rw [State.entry_endRecords]

theorem State.keepsHeld_endOne (s : State) (o : ExchOutcome) (f : Bool) (r : RecordIdx) :
    s.KeepsHeld (s.endRecords o f [r]) := s.keepsHeld_endRecords o f (List.nodup_singleton r)

theorem State.keepsHeld_sweep (s : State) (o : ExchOutcome) (f : Bool) (p : Record → Bool) :
    s.KeepsHeld (s.endRecords o f (s.liveWhere p)) := s.keepsHeld_endRecords o f (s.nodup_liveWhere p)

/-- A record takes a value that holds a sequence only if it is the one that the record held. -/
theorem State.keepsHeld_setRecord (s : State) (r : RecordIdx) {x : Record} (hfit : (s.record r).SeqFit → x.SeqFit)
    (hx : x.holds = true → (s.record r).holds = true ∧ x.station = (s.record r).station ∧ x.seq = (s.record r).seq) :
    s.KeepsHeld (s.setRecord r x) :=
  (State.sheds_of_record r (s.record_setRecord r · x) rfl rfl hfit hx).keepsHeld

/-- A record that holds a sequence stays with it, in flight. -/
theorem Record.SeqFit.move {x y : Record} (h : x.SeqFit) (hx : x.holds = true) (hy : y.state.inFlight = true)
    (ht : y.transmissions = x.transmissions) : y.SeqFit :=
  ⟨fun _ => Record.holds_of_inFlight hy, fun _ => ht ▸ h.transmitted hx⟩

theorem State.keepsHeld_presentHandle (k : Option Handle) (s : State) : s.KeepsHeld (s.presentHandle k) := by
  unfold State.presentHandle
  split
  · exact State.KeepsHeld.refl s
  · rename_i h
    refine State.keepsHeld_ite _ fun hc => ?_
    have hh : (s.record h.index).holds = true := Record.holds_of_inFlight (by rw [hc.2]; rfl)
    exact s.keepsHeld_setRecord _ (fun hf => hf.move hh rfl rfl) fun _ => ⟨hh, rfl, rfl⟩

/-- A record in flight is QUEUED again and holds its sequence on (R132, R135). -/
theorem State.keepsHeld_queueAtHead {s : State} {r : RecordIdx} (hr : (s.record r).state.inFlight = true) :
    s.KeepsHeld (s.queueAtHead r) := by
  refine (State.sheds_of_record r (s.record_queueAtHead r ·) rfl rfl (fun hf => ⟨fun _ => ?_, nofun⟩)
    fun _ => ⟨Record.holds_of_inFlight hr, rfl, rfl⟩).keepsHeld
  rw [Record.holds, Bool.or_eq_true]
  exact .inr (decide_eq_true (hf.sent hr))

theorem State.keepsHeld_retry {s : State} {r : RecordIdx} (hr : (s.record r).state = .sent) :
    s.KeepsHeld (s.retry r) := by
  have hh : (s.record r).holds = true := Record.holds_of_inFlight (by rw [hr]; rfl)
  unfold State.retry
  refine State.KeepsHeld.trans (s.keepsHeld_setRecord r ?_ ?_) (State.keepsHeld_queueAtHead ?_)
  · exact fun hf => ⟨fun _ => hh, hf.sent⟩
  · exact fun _ => ⟨hh, rfl, rfl⟩
  · rw [State.record_setRecord_self, hr]
    rfl

/-- A reserved record that has not been transmitted is QUEUED without a sequence (R10). -/
theorem State.keepsHeld_commit {s : State} {r : RecordIdx} (hr : (s.record r).state = .reserved)
    (ht : (s.record r).transmissions = 0) : s.KeepsHeld (s.queueAtTail r) := by
  refine (State.sheds_of_record r (s.record_queueAtTail r ·) rfl rfl (fun hf => ⟨fun hs => ?_, nofun⟩) fun hh => ?_).keepsHeld
  · have := hf.holds hs
    simp [Record.holds, hr, RecState.inFlight] at this
  · simp [Record.holds, Record.requeued, RecState.inFlight, ht] at hh

/-- A record becomes FREE. -/
theorem State.keepsHeld_freeRecord (s : State) (r : RecordIdx) : s.KeepsHeld (s.freeRecord r) :=
  s.keepsHeld_setRecord r (fun _ => (Record.shaped_blank _).seqFit) nofun

/-! ### Replies and holdoffs (R123 to R130) -/

theorem State.withdraw_stations (r : RecordIdx) (s : State) : (s.withdraw r).stations = s.stations := by
  unfold State.withdraw
  split <;> rfl

theorem State.sameSequences_withdraw (r : RecordIdx) (s : State) : s.SameSequences (s.withdraw r) := by
  unfold State.withdraw
  split
  · exact s.sameSequences_setLine _ _
  · exact State.SameSequences.refl s

theorem State.sameSequences_joined (was : RecState) (n : LineNo) (s : State) : s.SameSequences (s.joined was n) := by
  unfold State.joined State.returnToDraining
  split
  · split
    · exact s.sameSequences_setLine _ _
    · exact State.SameSequences.refl s
  · exact State.SameSequences.refl s

/-- A record that holds a sequence takes a frame and is in flight with it (R13). -/
theorem State.keepsHeld_frameTaken {s : State} {r : RecordIdx} {x : Record} (hr : (s.record r).holds = true)
    (hx : x.state.inFlight = true) (ht : x.transmissions = (s.record r).transmissions)
    (hst : x.station = (s.record r).station) (hq : x.seq = (s.record r).seq) (was : RecState) (n : LineNo) :
    s.KeepsHeld (((s.withdraw r).setRecord r x).joined was n) := by
  have hrec := s.record_withdraw r r
  refine State.KeepsHeld.same ((s.sameSequences_withdraw r).keepsHeld.trans
    ((s.withdraw r).keepsHeld_setRecord r ?_ ?_)) (State.sameSequences_joined was n _)
  · rw [hrec]; exact fun hf => hf.move hr hx ht
  · rw [hrec]; exact fun _ => ⟨hr, hst, hq⟩

theorem State.keepsHeld_acceptPart {s : State} {r : RecordIdx} (hr : (s.record r).holds = true) (n : LineNo) (f : Frame) :
    s.KeepsHeld (s.acceptPart n f r) := by
  unfold State.acceptPart
  apply State.keepsHeld_frameTaken hr <;> rfl

theorem State.keepsHeld_defer {s : State} {r : RecordIdx} (hr : (s.record r).holds = true) (n : LineNo) (f : Frame) :
    s.KeepsHeld (s.defer n f r) := by
  unfold State.defer
  apply State.keepsHeld_frameTaken hr <;> rfl

theorem State.keepsHeld_acceptLast (f : Frame) (r : RecordIdx) (s : State) : s.KeepsHeld (s.acceptLast f r) := by
  unfold State.acceptLast
  refine State.KeepsHeld.trans (s.keepsHeld_setRecord r ?_ ?_) (State.keepsHeld_endOne _ _ _ r)
  · exact fun hf => ⟨hf.holds, hf.sent⟩
  · exact fun hh => ⟨hh, rfl, rfl⟩

theorem State.keepsHeld_failByFrame (o : ExchOutcome) (k : ErrorKind) (n : LineNo) (f : Frame) (r : RecordIdx)
    (s : State) : s.KeepsHeld (s.failByFrame o k n f r) :=
  (s.keepsHeld_endOne o true r).same (State.sameSequences_report _ _)

theorem State.keepsHeld_deliverReply {s : State} {r : RecordIdx} (hr : (s.record r).holds = true) (n : LineNo)
    (f : Frame) : s.KeepsHeld (s.deliverReply n f r) := by
  unfold State.deliverReply State.nextSegment
  split
  · exact s.keepsHeld_failByFrame _ _ n f r
  · split
    · exact (s.sameSequences_report _).keepsHeld
    · split
      · split
        · exact s.keepsHeld_failByFrame _ _ n f r
        · split
          · exact s.keepsHeld_failByFrame _ _ n f r
          · split
            · exact s.keepsHeld_acceptLast f r
            · exact State.keepsHeld_acceptPart hr n f
      · exact s.keepsHeld_failByFrame _ _ n f r

theorem State.keepsHeld_deliverHoldoff {s : State} {r : RecordIdx} (hr : (s.record r).holds = true) (n : LineNo)
    (f : Frame) : s.KeepsHeld (s.deliverHoldoff n f r) := by
  unfold State.deliverHoldoff State.countHoldoff
  split
  · exact s.keepsHeld_failByFrame _ _ n f r
  · split
    · exact (s.sameSequences_report _).keepsHeld
    · split
      · exact State.keepsHeld_defer hr n f
      · exact s.keepsHeld_endOne _ _ r

theorem State.keepsHeld_matchFrame {deliver : RecordIdx → State → State} (n : LineNo) (f : Frame)
    (hd : ∀ (u : State) r, (u.record r).holds = true → u.KeepsHeld (deliver r u)) (s : State) :
    s.KeepsHeld (s.matchFrame deliver n f) := by
  unfold State.matchFrame
  dsimp only
  split
  · exact (s.sameSequences_report _).keepsHeld
  · have k := (s.sameSequences_signOfLife (stationAt n f.drop)).keepsHeld
    split
    case h_1 r hr => exact (k.trans (hd _ r (State.holder_some hr).1)).settle n
    case h_2 => split <;> exact k.same (State.sameSequences_report _ _)

theorem keepsHeld_takeReply (n : LineNo) (f : UpFields) (s : State) : s.KeepsHeld (takeReply n f s) :=
  State.keepsHeld_matchFrame n _ (fun _ _ hr => State.keepsHeld_deliverReply hr n _) s

theorem keepsHeld_takeHoldoff (n : LineNo) (f : UpFields) (s : State) : s.KeepsHeld (takeHoldoff n f s) :=
  State.keepsHeld_matchFrame n _ (fun _ _ hr => State.keepsHeld_deliverHoldoff hr n _) s

/-! ### Stations (R47, R54, R60, R61, R74) -/

/-- No record holds a sequence of a station that is not PRESENT. -/
theorem State.LiveLawful.no_holder {s : State} (h : s.LiveLawful) {st : StationIdx} (hs : (s.entry st).state ≠ .present)
    (r : RecordIdx) (hr : (s.record r).holds = true) : (s.record r).station ≠ st := by
  rintro rfl
  exact hs (h.station r (Record.live_of_holds hr))

/-- The entry of a station of which no record holds a sequence may take any window. -/
theorem State.keepsHeld_setEntry {s : State} {st : StationIdx} {e : Entry} (hf : e.fence = (s.entry st).fence)
    (hnone : ∀ r, (s.record r).holds = true → (s.record r).station ≠ st) : s.KeepsHeld (s.setEntry st e) := by
  refine (State.sheds_of_entries (s := s) (t := s.setEntry st e) rfl rfl (fun i q => ?_) fun i => ?_).keepsHeld <;>
    rw [State.entry_setEntry] <;> split
  · subst i; simp [hf]
  · exact id
  · subst i; exact .inr hnone
  · exact .inl rfl

theorem State.keepsHeld_loseStation (st : StationIdx) (s : State) : s.KeepsHeld (s.loseStation st) := by
  unfold State.loseStation
  have k := s.keepsHeld_sweep .stationLost true (fun x => x.station == st)
  exact State.KeepsHeld.settle ((k.same (State.sameSequences_setEntry _ st)).same (State.sameSequences_probeSweep _ _)) _

theorem State.keepsHeld_disableStation (st : StationIdx) (s : State) : s.KeepsHeld (s.disableStation st) := by
  unfold State.disableStation
  have k := s.keepsHeld_sweep .stationDisabled true (fun x => x.station == st)
  exact State.KeepsHeld.settle ((k.same (State.sameSequences_setEntry _ st)).same (State.sameSequences_offerAll _ _ _)) _

theorem State.keepsHeld_enableStation {s : State} (h : s.LiveLawful) {st : StationIdx}
    (hs : (s.entry st).state = .disabled) : s.KeepsHeld (s.enableStation st) := by
  unfold State.enableStation
  have k : s.KeepsHeld (s.setEntry st ((s.entry st).enabled.dueAt s.tick)) :=
    State.keepsHeld_setEntry rfl (h.no_holder (by simp [hs]))
  exact (k.same (State.sameSequences_probeSweep _ _)).choose _

theorem State.sameSequences_awaitNew (n : LineNo) (d : DropNo) (s : State) : s.SameSequences (s.awaitNew n d) := by
  unfold State.awaitNew
  split
  · exact State.SameSequences.trans (s.sameSequences_setEntry _) (State.sameSequences_offer _ _ _)
  · exact State.SameSequences.refl s

theorem State.keepsHeld_makePresent {s : State} (h : s.LiveLawful) {n : LineNo} {f : UpFields}
    (hs : (s.entry (stationAt n f.drop)).state ≠ .present) : s.KeepsHeld (s.makePresent n f) := by
  unfold State.makePresent
  have k : s.KeepsHeld (s.setEntry (stationAt n f.drop) ((s.entry (stationAt n f.drop)).admitted f)) :=
    State.keepsHeld_setEntry rfl (h.no_holder hs)
  exact (k.same (State.sameSequences_awaitNew n f.drop _)).settle n

theorem keepsHeld_takeProbeAnswer {s : State} (h : s.LiveLawful) (n : LineNo) (f : UpFields) :
    s.KeepsHeld (takeProbeAnswer n f s) := by
  unfold takeProbeAnswer
  dsimp only
  split
  · exact (s.sameSequences_report _).keepsHeld
  · split
    · exact ((s.sameSequences_signOfLife _).trans (State.sameSequences_report _ _)).keepsHeld
    · exact (s.sameSequences_report _).keepsHeld
    all_goals exact State.keepsHeld_makePresent h (by simp [*])

theorem keepsHeld_takeAttention (n : LineNo) (f : UpFields) (s : State) : s.KeepsHeld (takeAttention n f s) := by
  unfold takeAttention
  dsimp only
  split
  · exact (s.sameSequences_report _).keepsHeld
  · refine (s.sameSequences_signOfLife (stationAt n f.drop)).keepsHeld.trans ?_
    unfold State.placeCause
    dsimp only
    split
    · exact (State.sameSequences_setEntry _ _).keepsHeld
    · exact (State.sameSequences_setEntry _ _).keepsHeld
    · exact State.KeepsHeld.choose ((State.sameSequences_report _ _).trans (State.sameSequences_offer n _ _)).keepsHeld n

theorem State.sameSequences_markAck (st : StationIdx) (s : State) : s.SameSequences (s.markAck st) :=
  s.sameSequences_setEntry st

theorem keepsHeld_takeQuiesceAck (n : LineNo) (f : UpFields) (s : State) : s.KeepsHeld (takeQuiesceAck n f s) := by
  unfold takeQuiesceAck
  dsimp only
  have k := s.sameSequences_signOfLife (stationAt n f.drop)
  split
  · exact (s.sameSequences_report _).keepsHeld
  · split
    · exact (k.trans (State.sameSequences_report _ _)).keepsHeld
    · exact (k.trans (State.sameSequences_report _ _)).keepsHeld
    · exact ((k.trans (State.sameSequences_markAck _ _)).trans (State.sameSequences_testAcks _ _)).keepsHeld
    · exact (k.trans (State.sameSequences_markAck _ _)).keepsHeld

theorem keepsHeld_takeFrame {s : State} (h : s.LiveLawful) (k : FrameKind) (n : LineNo) (f : UpFields) :
    s.KeepsHeld (takeFrame k n f s) := by
  cases k with
  | reply => exact keepsHeld_takeReply n f s
  | holdoff => exact keepsHeld_takeHoldoff n f s
  | probeAnswer => exact keepsHeld_takeProbeAnswer h n f
  | attention => exact keepsHeld_takeAttention n f s
  | quiesceAck => exact keepsHeld_takeQuiesceAck n f s
  | request | abandon | probe | quiesce | attnRefused => exact State.KeepsHeld.refl s

/-- Fence places that are over are emptied (R74). -/
theorem State.keepsHeld_emptyFences (st : StationIdx) (s : State) : s.KeepsHeld (s.emptyFences st) := by
  refine (State.sheds_of_entries (s := s) (t := s.emptyFences st) rfl rfl (fun i q => ?_) fun i => .inl ?_).keepsHeld <;>
    rw [State.emptyFences, State.entry_setEntry] <;> split
  · subst i
    simp only [Vector.getElem_ofFn, expiredPlace]
    split
    · exact fun h => absurd rfl h
    · simp [*]
  · exact id
  · subst i; rfl
  · rfl

/-! ### Links and line resets (R57, R58, R80, R97, R112 to R114) -/

/-- The live records of a line end and its entries change, without a fence set there: none of its stations has a record
that holds a sequence any more. -/
theorem State.keepsHeld_clearLine (s : State) (n : LineNo) (o : ExchOutcome) (f : Bool) {u : State} {g : Entry → Entry}
    (hu : (s.endRecords o f (s.liveOnLine n)).SameSequences u)
    (hg : ∀ (e : Entry) (q : SeqNo), (g e).fence[q.val] ≠ none → e.fence[q.val] ≠ none) :
    s.KeepsHeld (u.mapLineEntries n g) := by
  refine ((s.keepsHeld_sweep o f _).same hu).trans ?_
  have hnone : ∀ r, (u.record r).holds = true → lineOf (u.record r).station ≠ n := by
    intro r hr
    rw [State.record_congr hu.records] at hr ⊢
    obtain ⟨-, hp, heq⟩ := s.not_live_after_sweep o f _ r (Record.live_of_holds hr)
    rw [State.liveOnLine, heq]
    simpa [Record.line] using hp
  refine (State.sheds_of_entries (by simp [State.mapLineEntries]) (by simp [State.mapLineEntries]) (fun st q => ?_)
    fun st => ?_).keepsHeld <;> rw [State.entry_mapLineEntries] <;> split
  · exact hg _ q
  · exact id
  · exact .inr fun r hr he => hnone r hr (by rw [he]; assumption)
  · exact .inl rfl

theorem Entry.dueIfProbed_same (t : Tick) (e : Entry) :
    (e.dueIfProbed t).fence = e.fence ∧ (e.dueIfProbed t).window = e.window := by
  unfold Entry.dueIfProbed
  split <;> exact ⟨rfl, rfl⟩

theorem Entry.lostByDown_fence (t : Tick) (e : Entry) : (e.lostByDown t).fence = e.fence := by
  unfold Entry.lostByDown
  split <;> rfl

theorem Entry.byOff_fence (t : Tick) (e : Entry) : (e.byOff t).fence = Vector.replicate 16 none := by
  unfold Entry.byOff
  dsimp only
  split <;> rfl

theorem Entry.reset_fence (t : Tick) (e : Entry) : (e.reset t).fence = Vector.replicate 16 none := by
  unfold Entry.reset
  dsimp only
  split <;> rfl

theorem State.keepsHeld_linkUp (n : LineNo) (s : State) : s.KeepsHeld (s.linkUp n) := by
  unfold State.linkUp
  dsimp only
  refine State.KeepsHeld.choose (State.SameSequences.keepsHeld ?_) n
  exact ((s.sameSequences_setLine n _).trans (State.sameSequences_mapLineEntries _ n (fun e => (e.dueIfProbed_same _).1)
    fun e => (e.dueIfProbed_same _).2)).trans (State.sameSequences_probeSweep n _)

theorem State.keepsHeld_linkDown (n : LineNo) (s : State) : s.KeepsHeld (s.linkDown n) := by
  unfold State.linkDown
  refine State.KeepsHeld.settle ((s.sameSequences_setLine n ((s.line n).unlinked .down)).keepsHeld.trans ?_) n
  exact State.keepsHeld_clearLine _ n .lineDown true (State.SameSequences.refl _) fun e q => by
    rw [Entry.lostByDown_fence]; exact id

theorem State.keepsHeld_linkOff (n : LineNo) (s : State) : s.KeepsHeld (s.linkOff n) := by
  unfold State.linkOff
  refine State.KeepsHeld.settle ((s.sameSequences_setLine n ((s.line n).unlinked .off)).keepsHeld.trans ?_) n
  exact State.keepsHeld_clearLine _ n .lineDown false (State.SameSequences.refl _) fun e q => by simp [Entry.byOff_fence]

theorem State.keepsHeld_lineEnabled (n : LineNo) (on : Bool) (s : State) : s.KeepsHeld (s.lineEnabled n on) := by
  unfold State.lineEnabled
  split
  · exact State.keepsHeld_ite _ fun _ => (s.sameSequences_setLine n _).keepsHeld
  · split
    · exact State.KeepsHeld.refl s
    · exact s.keepsHeld_linkOff n

theorem State.sameSequences_port (s : State) (p : Port) : s.SameSequences { s with port := p } :=
  s.sameSequences_of_same rfl rfl rfl

theorem State.keepsHeld_lineResetActs (n : LineNo) (s : State) : s.KeepsHeld (s.lineResetActs n) := by
  unfold State.lineResetActs
  dsimp only
  have k := State.keepsHeld_clearLine s n .lineReset false
    (State.sameSequences_setLine _ n ((s.endRecords .lineReset false (s.liveOnLine n)).line n).resetOwn)
    (g := Entry.reset (s.endRecords .lineReset false (s.liveOnLine n)).tick) fun e q => by simp [Entry.reset_fence]
  exact ((k.same (State.sameSequences_port _ _)).same (State.sameSequences_probeSweep n _)).choose n

theorem State.keepsHeld_lineResetTaken (n : LineNo) (s : State) : s.KeepsHeld (s.lineResetTaken n) := by
  unfold State.lineResetTaken
  split
  · exact s.keepsHeld_lineResetActs n
  · exact (s.sameSequences_setLine n _).keepsHeld

/-! ### The soft reset, and the ends of frames (R12, R93, R95, R195) -/

theorem State.sameSequences_resetting (s : State) (b : Bool) : s.SameSequences { s with resetting := b } :=
  s.sameSequences_of_same rfl rfl rfl

theorem State.keepsHeld_endPeriod (s : State) : s.KeepsHeld s.endPeriod := by
  unfold State.endPeriod
  have k := (s.sameSequences_resetting false).trans (State.sameSequences_mapLines _
    fun _ l => if l.rx = .discarding then { l with quiet := 0 } else l)
  exact k.keepsHeld.trans (State.keepsHeld_chooseAll _)

/-- No record holds a sequence, and no fence is set. -/
theorem State.heldFit_of_clear {s : State} (hl : ∀ n : LineNo, s.params.windowLimit[n.val] ≤ 4)
    (hr : ∀ r, (s.record r).SeqFit ∧ (s.record r).holds = false)
    (hf : ∀ st, (s.entry st).fence = Vector.replicate 16 none) : s.HeldFit := by
  have hnone : ∀ r, ¬ (s.record r).holds = true := fun r => by simp [hr]
  have hcount : ∀ st, s.heldCount st = 0 := fun st => State.heldCount_eq_zero fun r h => absurd h (hnone r)
  exact ⟨fun r => (hr r).1, hl, fun st => by simp [hcount], fun st => by simp [hcount],
    fun r _ h => absurd h (hnone r), fun st q => by simp [hf]⟩

theorem Record.softReset_idle {x : Record} (h : x.SeqFit) : x.softReset.SeqFit ∧ x.softReset.holds = false := by
  have hh : x.softReset.holds = false := by simp [Record.holds, x.softReset_free, RecState.inFlight]
  rcases x.softReset_cases with he | ⟨g, he⟩
  · exact ⟨by rw [he]; exact h, hh⟩
  · exact ⟨by rw [he]; exact (Record.shaped_blank g).seqFit, hh⟩

theorem State.keepsHeld_softened (s : State) : s.KeepsHeld s.softened := by
  intro h
  refine State.heldFit_of_clear (by rw [s.softened_rest]; exact h.limits) (fun r => ?_) (fun st => ?_)
  · rw [State.record_softened]
    exact Record.softReset_idle (h.records r)
  · rw [State.entry_softened]
    exact Entry.reset_fence _ _

theorem keepsHeld_takeSoftReset (s : State) : s.KeepsHeld (takeSoftReset s) := by
  have k : s.KeepsHeld s.softened.probeAll :=
    s.keepsHeld_softened.same (State.sameSequences_foldl _ (fun s n => s.sameSequences_probeSweep n) _ _)
  rw [takeSoftReset_eq]
  generalize s.softened.probeAll = t at k ⊢
  refine k.trans ?_
  unfold State.beginPeriod
  split
  · exact t.keepsHeld_endPeriod
  · exact (t.sameSequences_resetting true).keepsHeld

theorem State.keepsHeld_afterIdle (n : LineNo) (s : State) : s.KeepsHeld (s.afterIdle n) := by
  unfold State.afterIdle
  dsimp only
  have k := State.keepsHeld_ite (t := s.lineResetActs n) ((s.line n).resetWaiting = true) fun _ => s.keepsHeld_lineResetActs n
  generalize (if (s.line n).resetWaiting = true then s.lineResetActs n else s) = t at k ⊢
  refine k.trans ?_
  split
  · exact State.keepsHeld_ite _ fun _ => t.keepsHeld_endPeriod
  · exact t.keepsHeld_choose n

theorem State.keepsHeld_idleTx (n : LineNo) (s : State) :
    s.KeepsHeld ((s.setLine n { s.line n with tx := .idle }).afterIdle n) :=
  (s.sameSequences_setLine n _).keepsHeld.trans (State.keepsHeld_afterIdle n _)

theorem State.keepsHeld_transmitEnd (n : LineNo) (s : State) : s.KeepsHeld (s.transmitEnd n) := by
  unfold State.transmitEnd
  split
  · exact State.KeepsHeld.refl s
  · exact (s.keepsHeld_presentHandle _).trans (State.keepsHeld_idleTx n _)
  · exact State.KeepsHeld.refl s

theorem State.keepsHeld_stoppingEnd (n : LineNo) (s : State) : s.KeepsHeld (s.stoppingEnd n) := by
  unfold State.stoppingEnd
  split
  · exact State.KeepsHeld.refl s
  · exact State.KeepsHeld.refl s
  · exact s.keepsHeld_idleTx n

theorem State.keepsHeld_txEnd (n : LineNo) (s : State) : s.KeepsHeld (s.txEnd n) := by
  unfold State.txEnd
  split
  · exact s.keepsHeld_afterIdle n
  · exact s.keepsHeld_transmitEnd n
  · exact s.keepsHeld_stoppingEnd n

/-! ### Deadlines and the line service (R131 to R135, R161, R166, R169) -/

theorem State.sameSequences_countFailure (st : StationIdx) (s : State) : s.SameSequences (s.countFailure st) :=
  s.sameSequences_setEntry st

theorem State.keepsHeld_replyExpiry {s : State} {r : RecordIdx} (hr : (s.record r).state = .sent) :
    s.KeepsHeld (s.replyExpiry r) := by
  unfold State.replyExpiry
  dsimp only
  refine (s.sameSequences_countFailure (s.record r).station).keepsHeld.trans ?_
  have hr' : ((s.countFailure (s.record r).station).record r).state = .sent := hr
  split
  · exact State.keepsHeld_loseStation _ _
  · split
    · exact (State.keepsHeld_retry hr').settle _
    · exact State.KeepsHeld.settle (State.keepsHeld_endOne _ .timeout true r) _

theorem State.keepsHeld_segmentExpiry (r : RecordIdx) (s : State) : s.KeepsHeld (s.segmentExpiry r) := by
  unfold State.segmentExpiry
  dsimp only
  refine (s.sameSequences_countFailure (s.record r).station).keepsHeld.trans ?_
  split
  · exact State.keepsHeld_loseStation _ _
  · exact State.KeepsHeld.settle (State.keepsHeld_endOne _ .timeout true r) _

theorem State.keepsHeld_quiesceLine (n : LineNo) (s : State) : s.KeepsHeld (s.quiesceLine n) :=
  (s.sameSequences_setLine n _).keepsHeld.settle n

theorem State.keepsHeld_resumeLine (n : LineNo) (s : State) : s.KeepsHeld (s.resumeLine n) :=
  ((s.sameSequences_setLine n _).keepsHeld.same (State.sameSequences_probeSweep n _)).choose n

theorem State.sameSequences_quiesceExpiry (n : LineNo) (s : State) : s.SameSequences (s.quiesceExpiry n) := by
  unfold State.quiesceExpiry
  split
  · exact State.SameSequences.refl s
  · split
    · exact s.sameSequences_setLine n _
    · exact State.SameSequences.refl s

/-! ### Characters (R100, R104 to R108) -/

theorem State.sameSequences_charTaken (n : LineNo) (mark : Bool) (c : RxCond) (s : State) :
    s.SameSequences (s.charTaken n mark c) := by
  unfold State.charTaken
  split <;> exact s.sameSequences_of_same rfl rfl rfl

theorem State.keepsHeld_goodCharacter {s : State} (h : s.Lawful) (n : LineNo) (b : Byte) :
    s.KeepsHeld (s.goodCharacter n b) := by
  have k := fun c => s.sameSequences_charTaken n true c
  unfold State.goodCharacter
  split
  · exact (k _).keepsHeld
  · unfold State.assemble
    split
    · exact ((k _).trans (State.sameSequences_report _ _)).keepsHeld
    · split
      · unfold State.frameArrived
        dsimp only
        split
        · split
          · exact (k _).keepsHeld.trans (keepsHeld_takeFrame (State.keeps_charTaken h n _ _).lawful.live _ n _)
          · exact (k _).keepsHeld
        · exact ((k _).trans (State.sameSequences_report _ _)).keepsHeld
      · exact (k _).keepsHeld
  · exact (k _).keepsHeld

theorem State.sameSequences_badCharacter (n : LineNo) (s : State) : s.SameSequences (s.badCharacter n) := by
  unfold State.badCharacter
  split
  · exact s.sameSequences_charTaken n _ _
  · exact (s.sameSequences_charTaken n _ _).trans (State.sameSequences_report _ _)
  · exact s.sameSequences_charTaken n _ _

theorem State.sameSequences_gapExpiry (n : LineNo) (s : State) : s.SameSequences (s.gapExpiry n) := by
  unfold State.gapExpiry
  split
  · exact State.SameSequences.refl s
  · exact (s.sameSequences_setLine n _).trans (State.sameSequences_report _ _)
  · exact State.SameSequences.refl s

theorem State.keepsHeld_receiveFrame {s : State} (h : s.Lawful) (k : FrameKind) (n : LineNo) (f : UpFields)
    {t : State → State} (ht : ∀ u : State, u.LiveLawful → u.KeepsHeld (t u)) : s.KeepsHeld (s.receiveFrame k n f t) := by
  unfold State.receiveFrame
  exact State.keepsHeld_ite _ fun _ => (s.sameSequences_charTaken n true .hunting).keepsHeld.trans
    (ht _ (State.keeps_charTaken h n true .hunting).lawful.live)

end Sys2Proof.Machine
end

section
/-!
The controller port, the resets and the step keep the laws of the sequences.
-/

namespace Sys2Proof.Machine

theorem State.LiveLawful.withPort {s : State} (h : s.LiveLawful) (p : Port) : State.LiveLawful { s with port := p } :=
  ⟨h.station, h.link, h.control⟩

theorem State.sameSequences_respond (s : State) (bs : List Byte) : s.SameSequences (s.respond bs) :=
  s.sameSequences_port _

theorem State.sameSequences_commandError (s : State) : s.SameSequences s.commandError := s.sameSequences_report _

theorem State.KeepsHeld.respond {s t : State} (k : s.KeepsHeld t) (bs : List Byte) : s.KeepsHeld (t.respond bs) :=
  k.same (t.sameSequences_respond bs)

theorem State.KeepsHeld.closePort {s t : State} (k : s.KeepsHeld t) : s.KeepsHeld t.closePort :=
  k.same (t.sameSequences_of_same rfl rfl rfl)

/-! ### Decisions (R185) -/

/-- A reserved record holds no sequence (R9). -/
theorem State.keepsHeld_reserve (h : PostHeader) (r : RecordIdx) (s : State) : s.KeepsHeld (s.reserve h r) := by
  unfold State.reserve
  dsimp only
  have k := s.keepsHeld_setRecord r (x := reservedRecord (s.record r).gen h)
    (fun _ => (Record.shaped_reserved _ h).seqFit) nofun
  exact (k.respond _).same (State.sameSequences_port _ _)

theorem keepsHeld_takePostAdmission (h1 h2 h3 h4 : Byte) (s : State) :
    s.KeepsHeld (takePostAdmission h1 h2 h3 h4 s) := by
  unfold takePostAdmission
  split
  · exact ((s.sameSequences_respond _).trans (State.sameSequences_commandError _)).keepsHeld
  · split
    · exact (s.sameSequences_respond _).keepsHeld
    · split
      · exact s.keepsHeld_reserve _ _
      · exact (s.sameSequences_respond _).keepsHeld

theorem State.keepsHeld_cancelRecord (r : RecordIdx) (s : State) : s.KeepsHeld (s.cancelRecord r) := by
  unfold State.cancelRecord
  dsimp only
  refine State.KeepsHeld.settle ?_ _
  split
  · exact (s.keepsHeld_endOne .cancelled true r).same (State.sameSequences_offer _ _ _)
  · exact s.keepsHeld_endOne .cancelled true r

theorem keepsHeld_takeCancel (index gen : Byte) (s : State) : s.KeepsHeld (takeCancel index gen s) := by
  unfold takeCancel
  split
  · exact s.sameSequences_commandError.keepsHeld
  · exact (s.sameSequences_respond _).keepsHeld
  · split
    · exact (s.sameSequences_respond _).keepsHeld
    · exact State.keepsHeld_ite _ fun _ => (s.keepsHeld_cancelRecord _).respond _

/-- A snapshot changes nothing of the sequences, nor does COMMAND_ERROR. -/
theorem sameSequences_takeReads (a b : Byte) (s : State) :
    s.SameSequences (takeReadRecord a b s) ∧ s.SameSequences (takeReadStation a s) ∧
      s.SameSequences (takeAckAttention a s) ∧ s.SameSequences (takeReadLine a s) ∧
      s.SameSequences (takeReadParameter a b s) ∧ s.SameSequences (takeCollect a b s) ∧
      s.SameSequences (takeCollectNext s) := by
  have he := s.sameSequences_commandError
  have hr := s.sameSequences_respond
  have hn : ∀ r, s.SameSequences (s.nameRecord r) := fun r => (hr _).trans (State.sameSequences_port _ _)
  refine ⟨?_, ?_, ?_, ?_, ?_, ?_, ?_⟩
  · unfold takeReadRecord; split
    · exact he
    · exact hr _
    · exact hr _
  · unfold takeReadStation; split
    · exact he
    · exact hr _
  · unfold takeAckAttention; split
    · exact he
    · split <;> exact hr _
  · unfold takeReadLine; split
    · exact he
    · exact hr _
  · unfold takeReadParameter; split
    · exact he
    · split
      · exact hr _
      · exact he
  · unfold takeCollect; split
    · exact he
    · exact hr _
    · split
      · exact hn _
      · exact hr _
  · unfold takeCollectNext; split
    · exact hr _
    · exact hn _

theorem keepsHeld_takeEnableStation {s : State} (h : s.LiveLawful) (b : Byte) :
    s.KeepsHeld (takeEnableStation b s) := by
  unfold takeEnableStation
  split
  · exact s.sameSequences_commandError.keepsHeld
  · split
    · exact (State.keepsHeld_enableStation h ‹_›).respond _
    all_goals exact (s.sameSequences_respond _).keepsHeld

theorem keepsHeld_takeDisableStation (b : Byte) (s : State) : s.KeepsHeld (takeDisableStation b s) := by
  unfold takeDisableStation
  split
  · exact s.sameSequences_commandError.keepsHeld
  · split
    · exact (s.sameSequences_respond _).keepsHeld
    all_goals exact (s.keepsHeld_disableStation _).respond _

theorem keepsHeld_takeQuiesceLine (b : Byte) (s : State) : s.KeepsHeld (takeQuiesceLine b s) := by
  unfold takeQuiesceLine
  split
  · exact s.sameSequences_commandError.keepsHeld
  · split
    · exact (s.keepsHeld_quiesceLine _).respond _
    · exact (s.sameSequences_respond _).keepsHeld

theorem keepsHeld_takeResumeLine (b : Byte) (s : State) : s.KeepsHeld (takeResumeLine b s) := by
  unfold takeResumeLine
  split
  · exact s.sameSequences_commandError.keepsHeld
  · split
    · exact (s.sameSequences_respond _).keepsHeld
    · exact (s.keepsHeld_resumeLine _).respond _

theorem keepsHeld_takeDecision {s : State} (h : s.LiveLawful) (o : Opcode) (p : Nat → Byte) :
    s.KeepsHeld (takeDecision o p s) := by
  obtain ⟨hrecord, hstation, hack, hline, hparam, hcollect, hnext⟩ := sameSequences_takeReads (p 0) (p 1) s
  cases o with
  | post => exact keepsHeld_takePostAdmission _ _ _ _ s
  | readStatus | readErrors => exact (s.sameSequences_respond _).keepsHeld
  | cancel => exact keepsHeld_takeCancel _ _ s
  | collect => exact hcollect.keepsHeld
  | collectNext => exact hnext.keepsHeld
  | readRecord => exact hrecord.keepsHeld
  | readStation => exact hstation.keepsHeld
  | enableStation => exact keepsHeld_takeEnableStation h _
  | disableStation => exact keepsHeld_takeDisableStation _ s
  | ackAttention => exact hack.keepsHeld
  | readLine => exact hline.keepsHeld
  | quiesceLine => exact keepsHeld_takeQuiesceLine _ s
  | resumeLine => exact keepsHeld_takeResumeLine _ s
  | readParameter => exact hparam.keepsHeld
  | readStationChanges | lineReset | setParameter | clearErrors | softReset => exact State.KeepsHeld.refl s

/-- The bytes that have not yet arrived arrive, and the decision is taken. -/
theorem State.keepsHeld_arriveThrough {s : State} (h : s.LiveLawful) (o : Opcode) (ps : List Byte) {t : State → State}
    (ht : ∀ u : State, u.LiveLawful → u.KeepsHeld (t u)) : s.KeepsHeld (s.arriveThrough o ps t) := by
  unfold State.arriveThrough
  dsimp only
  refine State.keepsHeld_ite _ fun _ => ?_
  have k := s.sameSequences_port (s.port.having (o.code :: ps))
  split
  · exact k.keepsHeld
  · exact k.keepsHeld.trans (ht _ (h.withPort _))

/-! ### The rise of CSn (R10, R17, R31, R32, R185, R192) -/

theorem keepsHeld_takePostCommit {s : State} (h : s.Lawful) : s.KeepsHeld (takePostCommit s) := by
  unfold takePostCommit
  split
  · exact State.KeepsHeld.refl s
  · rename_i r hp
    have hr : (s.record r).state = .reserved := (h.reserved r).mpr hp
    split
    · unfold State.commitRecord
      split
      · exact s.keepsHeld_endOne _ _ r
      · split
        · exact s.keepsHeld_endOne _ _ r
        · exact (State.keepsHeld_commit hr ((h.shaped r).fresh hr)).choose _
    · exact (s.keepsHeld_freeRecord r).same (State.sameSequences_commandError _)

theorem keepsHeld_takeCollection (s : State) : s.KeepsHeld (takeCollection s) := by
  unfold takeCollection
  split
  · exact State.KeepsHeld.refl s
  · rename_i r _
    refine State.keepsHeld_ite _ fun _ => ?_
    unfold State.collectRecord
    dsimp only
    generalize hu : ({ s.freeRecord r with
      completionQ := (s.freeRecord r).completionQ.filter (fun q => q != r) } : State) = u
    obtain ⟨h1, h2, -, -, h5⟩ := u.afterCollection_same
    refine (s.keepsHeld_freeRecord r).same (State.SameSequences.trans (t := u) ?_ (u.sameSequences_of_same h1 h2 h5))
    subst hu
    exact State.sameSequences_of_same _ rfl rfl rfl

/-- A parameter that passes the checks of R192 is written: a WINDOW_LIMIT only while the line is OFF, where no record
holds a sequence. -/
theorem State.keepsHeld_write {s : State} (h : s.LiveLawful) {p : Param} {i v : Nat} (hi : i < p.indexCount)
    (hg : v ≤ p.greatest) (hw : s.writableNow p i = true) :
    s.KeepsHeld { s with params := s.params.write p i v } := by
  cases p with
  | windowLimit =>
    simp only [Param.indexCount] at hi
    simp only [State.writableNow, hi, dif_pos, beq_iff_eq] at hw
    have hlimit : ∀ n : LineNo, (s.params.write .windowLimit i v).windowLimit[n.val] =
        if n.val = i then v else s.params.windowLimit[n.val] := fun n => by
      simp only [Params.write, setAt, hi, dif_pos, Vector.getElem_set, eq_comm (a := i)]
    refine fun hs => ⟨hs.records, fun n => ?_, fun st => ?_, hs.lawful.four, hs.lawful.once, hs.lawful.unfenced⟩
    · show (s.params.write .windowLimit i v).windowLimit[n.val] ≤ 4
      rw [hlimit]
      split
      · exact hg
      · exact hs.limits n
    · by_cases hn : (lineOf st).val = i
      · refine le_of_eq_of_le (State.heldCount_eq_zero fun r hr he => ?_) (Nat.zero_le _)
        have hup := h.link _ (h.station r (Record.live_of_holds hr))
        have hline : lineOf (s.record r).station = ⟨i, hi⟩ := Fin.ext ((congrArg (fun st => (lineOf st).val) he).trans hn)
        rw [hline, hw] at hup
        cases hup
      · refine (hs.lawful.window st).trans_eq ?_
        simp only [State.effectiveWindow, hlimit, if_neg hn]
        rfl
  | _ => exact State.SameSequences.keepsHeld ⟨rfl, fun _ => rfl, fun _ => rfl, rfl⟩

theorem State.sameSequences_afterCoalesceWrite (s : State) : s.SameSequences s.afterCoalesceWrite := by
  unfold State.afterCoalesceWrite
  split
  · exact s.sameSequences_of_same rfl rfl rfl
  · split <;> exact s.sameSequences_of_same rfl rfl rfl

theorem State.keepsHeld_writeParameter {s : State} (h : s.LiveLawful) (number index value : Nat) :
    s.KeepsHeld (s.writeParameter number index value) := by
  unfold State.writeParameter
  split
  · exact s.sameSequences_commandError.keepsHeld
  · rename_i p hp
    obtain ⟨-, hi, -, hg, hw⟩ := State.checkedParam_some hp
    refine (State.keepsHeld_write h hi hg hw).trans ?_
    unfold State.afterWrite
    split
    · split
      · exact State.keepsHeld_lineEnabled _ _ _
      · exact State.KeepsHeld.refl _
    · exact (State.sameSequences_afterCoalesceWrite _).keepsHeld
    · exact State.KeepsHeld.refl _

theorem sameSequences_takeStationChangesClear (s : State) : s.SameSequences (takeStationChangesClear s) := by
  have hsame : ∀ b d (e : Entry), (clearReported b d e).fence = e.fence ∧ (clearReported b d e).window = e.window := by
    intro b d e
    unfold clearReported
    split <;> exact ⟨rfl, rfl⟩
  unfold takeStationChangesClear
  refine ⟨by simp, fun st => ?_, fun st => ?_, by simp⟩ <;> rw [State.entry_mapEntries] <;> split
  · exact (hsame _ _ _).1
  · rfl
  · exact (hsame _ _ _).2
  · rfl

theorem sameSequences_takeAcknowledge (s : State) : s.SameSequences (takeAcknowledge s) := by
  unfold takeAcknowledge
  split
  · split
    · exact s.sameSequences_setEntry _
    · exact State.SameSequences.refl s
  · exact State.SameSequences.refl s

theorem sameSequences_takeFinishedClear (s : State) : s.SameSequences (takeFinishedClear s) := by
  unfold takeFinishedClear
  split
  · split
    · exact s.sameSequences_setLine _ _
    · exact State.SameSequences.refl s
  · exact State.SameSequences.refl s

theorem keepsHeld_takeLineReset (b : Byte) (s : State) : s.KeepsHeld (takeLineReset b s) := by
  unfold takeLineReset
  split
  · exact s.sameSequences_commandError.keepsHeld
  · exact s.keepsHeld_lineResetTaken _

theorem sameSequences_takeClearErrors (s : State) : s.SameSequences (takeClearErrors s) :=
  s.sameSequences_of_same rfl rfl rfl

theorem keepsHeld_takeRise {s : State} (h : s.Lawful) (o : Opcode) (p : Nat → Byte) :
    s.KeepsHeld (takeRise o p s) := by
  cases o with
  | post => exact keepsHeld_takePostCommit h
  | collect | collectNext => exact keepsHeld_takeCollection s
  | readStationChanges => exact (sameSequences_takeStationChangesClear s).keepsHeld
  | ackAttention => exact (sameSequences_takeAcknowledge s).keepsHeld
  | readLine => exact (sameSequences_takeFinishedClear s).keepsHeld
  | lineReset => exact keepsHeld_takeLineReset _ s
  | setParameter => exact State.keepsHeld_writeParameter h.live _ _ _
  | clearErrors => exact (sameSequences_takeClearErrors s).keepsHeld
  | softReset => exact keepsHeld_takeSoftReset s
  | _ => exact State.KeepsHeld.refl s

theorem State.keepsHeld_riseThrough {s : State} (h : s.LiveLawful) (bs : List Byte) {t : State → State}
    (ht : ∀ u : State, u.LiveLawful → u.KeepsHeld (t u)) : s.KeepsHeld (s.riseThrough bs t) := by
  unfold State.riseThrough
  dsimp only
  refine State.keepsHeld_ite _ fun _ => State.KeepsHeld.closePort ?_
  have k := s.sameSequences_port (s.port.havingAtLeast bs)
  split
  · exact k.keepsHeld
  · exact k.keepsHeld.trans (ht _ (h.withPort _))

theorem State.keepsHeld_riseWhen {s : State} (c : Bool) {t : State → State} (ht : s.KeepsHeld (t s)) :
    s.KeepsHeld (s.riseWhen c t) := State.keepsHeld_ite _ fun _ => ht.closePort

theorem State.keepsHeld_riseEffect {s : State} (h : s.Lawful) : s.KeepsHeld s.riseEffect := by
  unfold State.riseEffect
  split
  · exact State.KeepsHeld.refl s
  · split
    · exact s.sameSequences_commandError.keepsHeld
    · split
      · exact s.sameSequences_commandError.keepsHeld
      · exact keepsHeld_takeRise h _ _

/-! ### The arrival of a byte (R29, R183, R186) -/

theorem State.keepsHeld_storePayload (k : Nat) (b : Byte) (s : State) : s.KeepsHeld (s.storePayload k b) := by
  unfold State.storePayload
  split
  · exact State.KeepsHeld.refl s
  · exact State.keepsHeld_ite _ fun _ =>
      s.keepsHeld_setRecord _ (fun hf => ⟨hf.holds, hf.sent⟩) fun hh => ⟨hh, rfl, rfl⟩

theorem State.sameSequences_beginChangeByte (s : State) : s.SameSequences s.beginChangeByte := by
  unfold State.beginChangeByte
  split
  · split
    · exact s.sameSequences_respond _
    · exact State.SameSequences.refl s
  · exact State.SameSequences.refl s

theorem State.keepsHeld_excessByte (k : Nat) (b : Byte) (s : State) : s.KeepsHeld (s.excessByte k b) := by
  unfold State.excessByte
  split
  · exact (s.keepsHeld_storePayload k b).same (State.sameSequences_port _ _)
  · exact (s.sameSequences_beginChangeByte.trans (State.sameSequences_port _ _)).keepsHeld
  · exact (s.sameSequences_port _).keepsHeld

theorem State.keepsHeld_byteArrives {s : State} (h : s.LiveLawful) (b : Byte) : s.KeepsHeld (s.byteArrives b) := by
  unfold State.byteArrives
  dsimp only
  split
  · have k := s.sameSequences_port { s.port with bytes := s.port.bytes ++ [b], count := s.port.count + 1 }
    split
    · exact k.keepsHeld
    · split
      · exact k.keepsHeld
      · split
        · exact k.keepsHeld.trans (keepsHeld_takeDecision (h.withPort _) _ _)
        · exact k.keepsHeld
  · have k := s.sameSequences_port { s.port with count := s.port.count + 1 }
    split
    · exact k.keepsHeld
    · exact k.keepsHeld.trans (State.keepsHeld_excessByte _ b _)

/-! ### Every command, and the step (R22, R118, R189, R197) -/

/-- After power-on no record holds a sequence (R22, R67). -/
theorem State.heldFit_powerOn (p : Power) (s : State) : (s.powerOn p).HeldFit := by
  refine State.heldFit_of_clear (fun n => ?_) (fun r => ?_) fun st => ?_
  · show Params.defaults.windowLimit[n.val] ≤ 4
    simp [Params.defaults]
  · rw [State.record_powerOn]
    exact ⟨(Record.shaped_blank 0).seqFit, rfl⟩
  · rw [State.entry_powerOn]
    rfl

theorem keepsHeld_execPinReset (periods : Nat) (s : State) :
    ∃ t, execPinReset periods s = .next t ∧ s.KeepsHeld t := by
  refine ⟨_, rfl, ?_⟩
  split
  · exact fun _ => State.heldFit_powerOn _ s
  · split
    · exact State.KeepsHeld.refl s
    · dsimp only
      split
      · exact fun _ => State.heldFit_powerOn _ _
      · exact State.SameSequences.keepsHeld (s.sameSequences_of_same rfl rfl rfl)

theorem keepsHeld_next_ite {s t : State} (c : Prop) [Decidable c] (k : c → s.KeepsHeld t) :
    ∃ u, (.next (if c then t else s) : Host.Outcome State Fault Refusal) = .next u ∧ s.KeepsHeld u :=
  ⟨_, rfl, State.keepsHeld_ite c k⟩

theorem keepsHeld_exec {s : State} (h : s.Lawful) (c : Instr) : ∃ t, exec c s = .next t ∧ s.KeepsHeld t := by
  have harrive : ∀ (o : Opcode) (ps : List Byte) (p : Nat → Byte), s.KeepsHeld (s.arriveThrough o ps (takeDecision o p)) :=
    fun o ps p => State.keepsHeld_arriveThrough h.live o ps fun _ hu => keepsHeld_takeDecision hu o p
  have hset : ∀ number index value, s.KeepsHeld (s.setRise number index value) := fun number index value =>
    State.keepsHeld_riseThrough h.live _ fun u hu => State.keepsHeld_writeParameter hu _ _ _
  have hsame : ∀ t : State, t.records = s.records → t.stations = s.stations → t.params = s.params → s.KeepsHeld t :=
    fun t h1 h2 h3 => (s.sameSequences_of_same h1 h2 h3).keepsHeld
  cases c with
  | transactionStart =>
    refine ⟨_, rfl, ?_⟩
    split
    · split <;> exact hsame _ rfl rfl rfl
    · exact State.KeepsHeld.refl s
  | readStatus => exact ⟨_, rfl, harrive .readStatus [] (fun _ => 0#8)⟩
  | postAdmission h1 h2 h3 h4 =>
    exact ⟨_, rfl, State.keepsHeld_arriveThrough h.live _ _ fun u _ => keepsHeld_takePostAdmission _ _ _ _ u⟩
  | postCommit => exact ⟨_, rfl, State.keepsHeld_riseWhen _ (keepsHeld_takePostCommit h)⟩
  | cancel index gen => exact ⟨_, rfl, harrive .cancel [index, gen] (fun i => [index, gen].getD i 0#8)⟩
  | collect index gen => exact ⟨_, rfl, harrive .collect [index, gen] (fun i => [index, gen].getD i 0#8)⟩
  | collectNext => exact ⟨_, rfl, harrive .collectNext [] (fun _ => 0#8)⟩
  | collection => exact ⟨_, rfl, State.keepsHeld_riseWhen _ (keepsHeld_takeCollection s)⟩
  | readRecord index gen => exact ⟨_, rfl, harrive .readRecord [index, gen] (fun i => [index, gen].getD i 0#8)⟩
  | readStation b => exact ⟨_, rfl, harrive .readStation [b] (fun _ => b)⟩
  | readStationChanges =>
    refine keepsHeld_next_ite _ fun _ => ?_
    have k := s.sameSequences_port (s.port.havingAtLeast [Opcode.readStationChanges.code])
    dsimp only
    split
    · exact k.keepsHeld
    · exact (k.trans (State.sameSequences_beginChangeByte _)).keepsHeld
  | stationChangesClear =>
    exact ⟨_, rfl, State.keepsHeld_riseWhen _ (sameSequences_takeStationChangesClear s).keepsHeld⟩
  | enableStation b => exact ⟨_, rfl, harrive .enableStation [b] (fun _ => b)⟩
  | disableStation b => exact ⟨_, rfl, harrive .disableStation [b] (fun _ => b)⟩
  | ackAttention b => exact ⟨_, rfl, harrive .ackAttention [b] (fun _ => b)⟩
  | attentionAcknowledge => exact ⟨_, rfl, State.keepsHeld_riseWhen _ (sameSequences_takeAcknowledge s).keepsHeld⟩
  | readLine b => exact ⟨_, rfl, harrive .readLine [b] (fun _ => b)⟩
  | quiesceFinishedClear => exact ⟨_, rfl, State.keepsHeld_riseWhen _ (sameSequences_takeFinishedClear s).keepsHeld⟩
  | quiesceLine b => exact ⟨_, rfl, harrive .quiesceLine [b] (fun _ => b)⟩
  | resumeLine b => exact ⟨_, rfl, harrive .resumeLine [b] (fun _ => b)⟩
  | lineReset b => exact ⟨_, rfl, State.keepsHeld_riseThrough h.live _ fun u _ => keepsHeld_takeLineReset b u⟩
  | lineResetAct n => exact keepsHeld_next_ite _ fun _ => s.keepsHeld_txEnd n
  | setParameter number index value => exact ⟨_, rfl, hset _ _ _⟩
  | lineEnableOn n => exact ⟨_, rfl, hset _ _ _⟩
  | lineEnableOff n => exact ⟨_, rfl, hset _ _ _⟩
  | setLineRate n v => exact ⟨_, rfl, hset _ _ _⟩
  | setWindowLimit n v => exact ⟨_, rfl, hset _ _ _⟩
  | setTickDivider v => exact ⟨_, rfl, hset _ _ _⟩
  | setUrgentReserve v => exact ⟨_, rfl, hset _ _ _⟩
  | setCoalesceCount v => exact ⟨_, rfl, hset _ _ _⟩
  | setNoteEnable v => exact ⟨_, rfl, hset _ _ _⟩
  | setErrorClass b v => exact ⟨_, rfl, hset _ _ _⟩
  | setFaultEnable b v => exact ⟨_, rfl, hset _ _ _⟩
  | readParameter number index =>
    exact ⟨_, rfl, harrive .readParameter [number, index] (fun i => [number, index].getD i 0#8)⟩
  | readErrors => exact ⟨_, rfl, harrive .readErrors [] (fun _ => 0#8)⟩
  | clearErrors =>
    exact ⟨_, rfl, State.keepsHeld_riseThrough h.live _ fun u _ => (sameSequences_takeClearErrors u).keepsHeld⟩
  | softReset => exact ⟨_, rfl, State.keepsHeld_riseThrough h.live _ fun u _ => keepsHeld_takeSoftReset u⟩
  | resetPeriodEnd =>
    refine keepsHeld_next_ite _ fun _ => ?_
    split
    · exact s.keepsHeld_endPeriod
    · exact s.keepsHeld_txEnd _
    · exact State.KeepsHeld.refl s
  | unknownOpcode b =>
    exact keepsHeld_next_ite _ fun _ => State.keepsHeld_riseThrough h.live _ fun u _ =>
      u.sameSequences_commandError.keepsHeld
  | shortInstruction =>
    refine ⟨_, rfl, State.keepsHeld_riseWhen _ ?_⟩
    unfold takeShort
    split
    · exact s.sameSequences_commandError.keepsHeld
    · exact keepsHeld_takePostCommit h
  | pinReset periods => exact keepsHeld_execPinReset periods s
  | resetnRelease => exact keepsHeld_next_ite _ fun _ => hsame _ rfl rfl rfl
  | powerOnReset => exact ⟨_, rfl, fun _ => State.heldFit_powerOn _ s⟩
  | tick => exact keepsHeld_next_ite _ fun _ => hsame _ rfl rfl rfl
  | linkUp n => exact keepsHeld_next_ite _ fun _ => s.keepsHeld_linkUp n
  | linkDown n => exact keepsHeld_next_ite _ fun _ => s.keepsHeld_linkDown n
  | reply n f => exact ⟨_, rfl, State.keepsHeld_receiveFrame h _ n f fun u _ => keepsHeld_takeReply n f u⟩
  | holdoff n f => exact ⟨_, rfl, State.keepsHeld_receiveFrame h _ n f fun u _ => keepsHeld_takeHoldoff n f u⟩
  | probeAnswer n f => exact ⟨_, rfl, State.keepsHeld_receiveFrame h _ n f fun _ hu => keepsHeld_takeProbeAnswer hu n f⟩
  | attention n f => exact ⟨_, rfl, State.keepsHeld_receiveFrame h _ n f fun u _ => keepsHeld_takeAttention n f u⟩
  | quiesceAck n f => exact ⟨_, rfl, State.keepsHeld_receiveFrame h _ n f fun u _ => keepsHeld_takeQuiesceAck n f u⟩
  | charError n => exact keepsHeld_next_ite _ fun _ => (s.sameSequences_badCharacter n).keepsHeld
  | formatError n h1 h2 h3 h4 =>
    exact keepsHeld_next_ite _ fun _ => ((s.sameSequences_charTaken n _ _).trans (State.sameSequences_report _ _)).keepsHeld
  | checkError n h1 h2 h3 h4 payload c1 c2 =>
    exact keepsHeld_next_ite _ fun _ => ((s.sameSequences_charTaken n _ _).trans (State.sameSequences_report _ _)).keepsHeld
  | receiveGapExpiry n => exact keepsHeld_next_ite _ fun _ => (s.sameSequences_gapExpiry n).keepsHeld
  | discardIdleEnd n => exact keepsHeld_next_ite _ fun _ => (s.sameSequences_setLine n _).keepsHeld
  | transmitEnd n => exact keepsHeld_next_ite _ fun _ => s.keepsHeld_transmitEnd n
  | stoppingEnd n => exact keepsHeld_next_ite _ fun _ => s.keepsHeld_stoppingEnd n
  | replyDeadlineExpiry r =>
    refine keepsHeld_next_ite _ fun hc => State.keepsHeld_replyExpiry ?_
    simp only [Bool.and_eq_true, beq_iff_eq] at hc
    exact hc.1.2
  | segmentDeadlineExpiry r => exact keepsHeld_next_ite _ fun _ => s.keepsHeld_segmentExpiry r
  | holdoffDeadlineExpiry r =>
    refine keepsHeld_next_ite _ fun hc => (State.keepsHeld_queueAtHead ?_).settle _
    simp only [Bool.and_eq_true, beq_iff_eq] at hc
    rw [hc.1.2]
    rfl
  | fenceExpiry st => exact keepsHeld_next_ite _ fun _ => (s.keepsHeld_emptyFences st).choose _
  | probeDue st =>
    exact keepsHeld_next_ite _ fun _ =>
      State.KeepsHeld.choose ((s.sameSequences_setEntry st).trans (State.sameSequences_probeSweep _ _)).keepsHeld _
  | idleTimerExpiry => exact keepsHeld_next_ite _ fun _ => hsame _ rfl rfl rfl
  | quiesceDeadlineExpiry n => exact keepsHeld_next_ite _ fun _ => (s.sameSequences_quiesceExpiry n).keepsHeld
  | byteArrival b => exact keepsHeld_next_ite _ fun _ => State.keepsHeld_byteArrives h.live b
  | transactionEnd =>
    refine ⟨_, rfl, ?_⟩
    split
    · exact State.KeepsHeld.refl s
    · split
      · exact (State.keepsHeld_riseEffect h).closePort
      · exact (State.KeepsHeld.refl s).closePort
  | goodCharacter n b => exact keepsHeld_next_ite _ fun _ => State.keepsHeld_goodCharacter h n b
  | rxdTransition n =>
    refine ⟨_, rfl, ?_⟩
    split <;> exact hsame _ rfl rfl rfl
  | refclkLoss cause => exact ⟨_, rfl, fun _ => State.heldFit_powerOn _ s⟩
  | refclkReturn =>
    refine ⟨_, rfl, ?_⟩
    split
    · exact State.KeepsHeld.refl s
    · exact hsame _ rfl rfl rfl

theorem State.sameSequences_clockPeriod (s : State) : s.SameSequences s.clockPeriod := by
  unfold State.clockPeriod
  split
  · exact (s.sameSequences_mapLines fun n l => l.period s.pins.rxdMark[n.val] s.params.lineRate[n.val]).trans
      (State.sameSequences_of_same _ rfl rfl rfl)
  · exact State.SameSequences.refl s

/-- A step gives the effect of a command, or lets one period pass. -/
theorem keepsHeld_step {s t : State} (h : s.Lawful) (hs : step s = .next t) : s.KeepsHeld t := by
  have hexec : ∀ {u : State}, s.Keeps u → s.SameSequences u → ∀ {c : Instr}, exec c u = .next t → s.KeepsHeld t := by
    intro u k same c hc
    obtain ⟨v, hv, kv⟩ := keepsHeld_exec k.lawful c
    obtain rfl : v = t := by rw [hc] at hv; cases hv; rfl
    exact same.keepsHeld.trans kv
  unfold step at hs
  split at hs
  · rename_i c cs _
    exact hexec (State.keeps_of_same h (t := { s with pending := cs }) rfl rfl rfl rfl rfl rfl rfl fun c => c.congr rfl rfl)
      (s.sameSequences_of_same rfl rfl rfl) hs
  · unfold State.idleStep at hs
    split at hs
    · cases hs
      exact s.sameSequences_clockPeriod.keepsHeld
    · exact hexec (State.Keeps.refl h) (State.SameSequences.refl s) hs
    · exact hexec (State.keeps_of_same h (t := { s with choices := s.choices + 1 }) rfl rfl rfl rfl rfl rfl rfl
        fun c => c.congr rfl rfl) (s.sameSequences_of_same rfl rfl rfl) hs

theorem Params.InRange.windowLimit {ps : Params} (h : ps.InRange) (n : LineNo) : ps.windowLimit[n.val] ≤ 4 := by
  have := (h .windowLimit n.val n.isLt).2
  simpa [Params.read, Param.greatest] using this

/-- Settles O57: events shed sequences, but for a dispatch, which takes a free one while the window has room. -/
theorem heldSequencesKept : Obligations.HeldSequencesKept := by
  intro s t h hp hh hs
  exact (keepsHeld_step h hs ⟨fun r => (h.shaped r).seqFit, hp.windowLimit, hh⟩).lawful

end Sys2Proof.Machine
end

section
/-!
The state after power-on and pin reset: its flags, and that it meets every law (R22, R67, R98, R171, R182, R204).
-/

namespace Sys2Proof.Machine

/-- The state after reset is what power-on makes of it. -/
theorem State.reset_eq_powerOn : State.reset = State.reset.powerOn State.reset.power := rfl

@[simp] theorem State.reset_record (r : RecordIdx) : State.reset.record r = Record.blank 0 :=
  State.record_powerOn State.reset.power State.reset r

@[simp] theorem State.reset_entry (st : StationIdx) : State.reset.entry st = Entry.initial :=
  State.entry_powerOn State.reset.power State.reset st

@[simp] theorem State.reset_line (n : LineNo) : State.reset.line n = Line.initial :=
  State.line_powerOn State.reset.power State.reset n

/-- No station has a cause or a change marker, no line is DOWN or has finished a quiesce, and no alert is taken. -/
theorem State.reset_sources : State.reset.sourceA = false ∧ State.reset.sourceQ = false ∧ State.reset.sourceS = false ∧
    State.reset.flagF = false ∧ State.reset.anyLineDown = false ∧ State.reset.freeLow = false := by
  refine ⟨?_, ?_, ?_, ?_, ?_, ?_⟩
  · simp [Bool.eq_false_iff, State.sourceA_iff, Entry.initial]
  · simp [Bool.eq_false_iff, State.sourceQ_iff, Line.initial]
  · simp [Bool.eq_false_iff, State.sourceS_iff, Entry.initial]
  · simp [Bool.eq_false_iff, State.flagF_iff, State.reset, FaultAccount.empty]
  · simp [Bool.eq_false_iff, State.anyLineDown_iff, Line.initial]
  · obtain ⟨-, -, -, -, hlow, -⟩ := State.table_powerOn State.reset.power State.reset
    exact hlow

/-- All eight flags of the status byte are 0 after reset (R200). -/
theorem State.reset_statusByte : State.reset.statusByte = 0#8 := by
  obtain ⟨ha, hq, hs, hf, hd, hl⟩ := State.reset_sources
  simp only [State.statusByte, ha, hq, hs, hf, hd, hl]
  rfl

/-- Neither NOTEn nor FAULTn is asserted after reset (R153, R177). -/
theorem State.reset_pins : State.reset.noteAsserted = false ∧ State.reset.faultAsserted = false := by
  obtain ⟨ha, hq, hs, -⟩ := State.reset_sources
  have hc : State.reset.signalC = false := rfl
  constructor
  · simp [State.noteAsserted, ha, hq, hs, hc]
  · simp [State.faultAsserted, State.reset, FaultAccount.empty]

/-- The state after reset is lawful, and within the counts. -/
theorem State.reset_lawful : State.reset.Lawful ∧ State.reset.Counts := by
  have k := State.keepsLaws_powerOn State.reset.power State.reset
  exact ⟨k.lawful, ⟨Params.inRange_defaults, fun r => by simpa using Record.counted_blank 0⟩⟩

theorem State.reset_signalLawful : State.reset.SignalLawful := ⟨by decide, nofun, nofun⟩

theorem FaultAccount.empty_bounded : FaultAccount.empty.Bounded := ⟨fun k => by simp [FaultAccount.empty], Nat.zero_le _⟩

/-- Settles O53: the values are those that the definition writes, and each law holds since all records are blank. -/
theorem resetValuesAndLaws : Obligations.ResetValuesAndLaws := by
  have hclass : ∀ k : ErrorKind, State.reset.params.errorClass[k.code.val] = .alert ↔
      k = .unexpectedReply ∨ k = .segmentError ∨ k = .replyOverrun ∨ k = .controlDropped ∨ k = .commandError := by
    intro k
    cases k <;> decide
  have hlines : ∀ n : LineNo, State.reset.params.lineRate[n.val] = 139 ∧ State.reset.params.windowLimit[n.val] = 4 ∧
      State.reset.params.probeInterval[n.val] = 10000 ∧ State.reset.params.lineEnable[n.val] = false := by
    intro n
    simp [State.reset, Params.defaults]
  have hfault : ∀ k : Fin 11, State.reset.params.faultEnable[k.val] = true := by
    intro k
    simp [State.reset, Params.defaults]
  have hheld := (State.heldFit_powerOn State.reset.power State.reset).lawful
  refine ⟨fun st => by rw [State.reset_entry]; rfl, fun n => ?_, rfl, rfl, rfl, rfl, rfl, State.reset_statusByte,
    State.reset_pins.1, State.reset_pins.2, rfl, rfl, hlines, rfl, rfl, rfl, rfl, rfl, rfl, rfl, rfl, rfl, rfl, rfl,
    hclass, hfault, State.reset_lawful.1, fun st => ?_, fun n => ?_, FaultAccount.empty_bounded, State.reset_lawful.2.params,
    State.reset_lawful.2.records, hheld, State.reset_signalLawful⟩
  · rw [State.reset_line]
    exact ⟨rfl, rfl, rfl, rfl, rfl, rfl, rfl, rfl, rfl⟩
  · rw [State.reset_entry]
    exact nofun
  · rw [State.reset_line]
    exact Nat.zero_le _

end Sys2Proof.Machine
end

section
/-!
The Station Directory as the controller port shows it: READ STATION (R46, R191), READ STATION CHANGES and its clearing
(R66), and what SDO carries in each byte (R183 to R185).
-/

namespace Sys2Proof.Machine

/-! ### READ STATION (R46, R191, R201) -/

/-- A code of two bits below a run of flags: the code and each flag are read back from the byte. -/
theorem codeBelowFlags {c : Nat} (hc : c < 4) (fs : List Bool) :
    (byteOf (c + 4 * flagsValue fs)).toNat % 4 = c ∧
      ∀ i, i < 6 → (byteOf (c + 4 * flagsValue fs)).getLsbD (i + 2) = fs.getD i false := by
  constructor
  · simp only [byteOf, BitVec.toNat_ofNat]
    omega
  · intro i hi
    have hdiv : (c + 4 * flagsValue fs) / 2 / 2 = flagsValue fs := by omega
    rw [byteOf_getLsbD, Nat.testBit_succ, Nat.testBit_succ, hdiv, testBit_flagsValue]
    simp [show i + 2 < 8 by omega]

theorem StationState.code_lt (x : StationState) : x.code < 4 := by cases x <;> decide

/-- The flags of an entry in the first byte of READ STATION, from bit 2 up (R201). -/
def Entry.flags (e : Entry) : List Bool :=
  [e.pendingCause.isSome, e.presented.isSome, e.ackMark, e.changed, e.replaced, e.identity.isSome]

/-- The response of READ STATION in the terms of R46 and R201. -/
theorem State.stationResponse_eq (s : State) (st : StationIdx) : s.stationResponse st =
    byteOf ((s.entry st).state.code + 4 * flagsValue (s.entry st).flags) ::
      [((s.entry st).identity.map (fun i => highByte i.classCode.toNat)).getD 0#8,
        ((s.entry st).identity.map (fun i => lowByte i.classCode.toNat)).getD 0#8,
        ((s.entry st).identity.map (fun i => i.revision)).getD 0#8,
        byteOf ((s.entry st).window.getD 0),
        byteOf (((s.entry st).window.map (fun w => min w s.params.windowLimit[(lineOf st).val])).getD 0),
        byteOf (s.entry st).failures, byteOf (s.entry st).cursor.val,
        byteOf (s.records.toList.countP (fun x => x.holds && x.station == st)),
        byteOf (s.records.toList.countP (fun x => x.state.live && x.station == st)),
        byteOf ((s.entry st).fence.toList.countP Option.isSome),
        (s.entry st).presented.getD 0#8, (s.entry st).pendingCause.getD 0#8] := by
  have hflags : ∀ c p q a b r i,
      c + bitValue p 4 + bitValue q 8 + bitValue a 16 + bitValue b 32 + bitValue r 64 + bitValue i 128 =
        c + 4 * flagsValue [p, q, a, b, r, i] := by
    intro c p q a b r i
    simp only [flagsValue, bitValue_eq]
    ring
  unfold State.stationResponse Entry.flags
  simp only [hflags, State.effectiveWindow, State.heldCount, State.openCount, Entry.fencedCount, optByte]
  cases (s.entry st).identity <;> rfl

/-- Settles O21: the snapshot is `State.stationResponse`, whose first byte holds the state's code and six flags. -/
theorem readStationReports : Obligations.ReadStationReports := by
  intro s b ha
  have hexec : exec (.readStation b) s = .next (takeReadStation b (s.arrived [0xB1#8, b])) :=
    congrArg Host.Outcome.next (State.arriveThrough_eq (o := .readStation) (ps := [b]) (takeReadStation b) ha)
  refine ⟨fun hb => ?_, fun st hb => ?_⟩
  · rw [hexec, takeReadStation, stationOfByte_none hb]
    rfl
  · obtain ⟨hcode, hbits⟩ := codeBelowFlags (s.entry st).state.code_lt (s.entry st).flags
    refine ⟨_, _, ?_, ?_, hbits 5 (by omega), hbits 4 (by omega), hbits 3 (by omega), hbits 2 (by omega),
      hbits 1 (by omega), hbits 0 (by omega), rfl⟩
    · rw [hexec, takeReadStation, stationOfByte_some hb]
      exact congrArg (fun r => Host.Outcome.next ((s.arrived [0xB1#8, b]).respond r)) (s.stationResponse_eq st)
    · rw [hcode]
      cases (s.entry st).state <;> rfl

/-! ### READ STATION CHANGES (R66) -/

/-- The marker of an entry after the response byte of its line was clocked out in full, or not (R66). -/
theorem entry_takeStationChangesClear (s : State) (n : LineNo) (d : DropNo) :
    (takeStationChangesClear s).entry (stationAt n d) =
      { s.entry (stationAt n d) with
        changed := (s.entry (stationAt n d)).changed &&
          !(decide (n.val < s.port.clocked) && decide (n.val < s.port.response.length)
            && (s.port.response.getD n.val 0#8).getLsbD d.val) } := by
  rw [takeStationChangesClear, State.entry_mapEntries, lineOf_stationAt, dropOf_stationAt]
  by_cases hc : n.val < s.port.clocked ∧ n.val < s.port.response.length
  · rw [if_pos hc, clearReported]
    simp only [hc.1, hc.2, decide_true, Bool.true_and]
    cases (s.port.response.getD n.val 0#8).getLsbD d.val
    · simp
    · simp
  · have hfalse : (decide (n.val < s.port.clocked) && decide (n.val < s.port.response.length)) = false := by
      simpa using hc
    rw [if_neg hc, hfalse]
    simp

/-- Settles O22: a byte is fixed as the markers of its line, and the rise clears what bytes clocked out reported. -/
theorem stationChanges : Obligations.StationChanges := by
  refine ⟨fun s n h hr hc => ⟨s.changeByte n, ?_, s.changeByte_getLsbD n⟩, fun s h hc => ⟨_, rfl, ?_⟩⟩
  · have hcarries : s.carries [Opcode.readStationChanges.code] = true := by
      rw [State.carries, h.portOpen, Bool.true_and, beq_iff_eq]
      exact h.bytes
    have hheard : (s.port.havingAtLeast [Opcode.readStationChanges.code]).ignored = false := Port.not_ignored _ h.served
    show execReadStationChanges s = _
    rw [execReadStationChanges, if_pos hcarries]
    dsimp only
    rw [hheard, if_neg (by decide), State.beginChangeByte_of_unbegun
      (s := { s with port := s.port.havingAtLeast [Opcode.readStationChanges.code] }) hr hc.ge]
    rfl
  · have hop : s.port.op = some .readStationChanges := Port.op_of_bytes (o := .readStationChanges) (h.bytes_eq hc)
    rw [State.riseWhen_eq takeStationChangesClear h.portOpen h.served (by rw [hop]; rfl)]
    have hsame : (takeStationChangesClear s).closePort.stations = (takeStationChangesClear s).stations := rfl
    refine ⟨fun n d => (State.entry_congr hsame _).trans (entry_takeStationChangesClear s n d), ?_⟩
    simp [takeStationChangesClear, State.closePort]

/-! ### What SDO carries (R183 to R185) -/

/-- While no transaction is open SDO is at high impedance (R183). -/
theorem State.sdo_of_closed {s : State} (h : s.operating = false ∨ s.port.phase ≠ .opened) : s.sdo = none := by
  unfold State.sdo
  rw [if_neg]
  rintro ⟨ho, hp⟩
  rcases h with h | h
  · rw [h] at ho; cases ho
  · exact h hp

/-- The opcode byte carries the snapshot of the status byte (R184). -/
theorem State.sdo_of_first {s : State} (ho : s.operating = true) (hp : s.port.phase = .opened) (hc : s.port.count = 0) :
    s.sdo = some s.port.status := by
  simp [State.sdo, ho, hp, hc]

/-- After the opcode byte of a served transaction: 0xFF until the parameter bytes are complete, and then the response byte
in progress (R185). -/
theorem State.sdo_of_op {s : State} {bs : List Byte} (h : s.Serving bs) {o : Opcode} (hop : s.port.op = some o)
    (hc : 0 < s.port.count) :
    s.sdo = some (if s.port.count < 1 + o.paramCount then absentByte else s.responseByte o) := by
  simp only [State.sdo, h.operating, h.opened, Port.not_ignored _ h.served, hop, and_self, if_true,
    if_neg (Nat.ne_of_gt hc), Bool.false_eq_true, if_false]
  split <;> rfl

/-- An unknown opcode has no response (R188). -/
theorem State.sdo_of_unknown {s : State} {bs : List Byte} (h : s.Serving bs) (hop : s.port.op = none)
    (hc : 0 < s.port.count) : s.sdo = some absentByte := by
  simp [State.sdo, h.operating, h.opened, Port.not_ignored _ h.served, hop, Nat.ne_of_gt hc]

/-- The response byte in progress of a served transaction whose parameter bytes have arrived. -/
theorem State.sdo_of_complete {s : State} {bs : List Byte} (h : s.Serving bs) {o : Opcode} (hop : s.port.op = some o)
    (hc : 1 + o.paramCount ≤ s.port.count) : s.sdo = some (s.responseByte o) := by
  rw [State.sdo_of_op h hop (by omega), if_neg (Nat.not_lt.mpr hc)]

/-- After the last response byte 0xFF is shown (R185). -/
theorem State.responseByte_of_ended {s : State} {o : Opcode} (h : s.port.response.length ≤ s.port.clocked)
    (ho : o ≠ .readStationChanges ∨ 8 ≤ s.port.response.length) : s.responseByte o = 0xFF#8 := by
  have hd : s.port.response.getD s.port.clocked absentByte = 0xFF#8 := by
    rw [List.getD_eq_getElem?_getD, List.getElem?_eq_none h]
    rfl
  rcases ho with ho | ho
  · rw [State.responseByte_of_ne s ho, hd]
  · rw [State.responseByte, dif_neg (Nat.not_lt.mpr ho), hd]

/-- Settles O9: the opening of a transaction, and SDO by how many bytes have been counted. -/
theorem responseOnSdo : Obligations.ResponseOnSdo := by
  refine ⟨fun s hcsn => ⟨fun ho => ⟨?_, State.sdo_of_first ho rfl rfl⟩, fun ho => ?_⟩, fun s h => State.sdo_of_closed h,
    fun s bs h => ⟨fun hc => State.sdo_of_first h.operating h.opened hc, fun o hop hc hp => ?_,
      fun o hop hc b hb => ?_, fun o hop hc hl ho => ?_, fun n hop hc hl hn => ?_,
      fun hop hc => State.sdo_of_unknown h hop hc⟩⟩
  · show execTransactionStart s = _
    rw [execTransactionStart, if_pos hcsn, if_pos ho]
    rfl
  · show execTransactionStart s = _
    rw [execTransactionStart, if_pos hcsn, if_neg (by rw [ho]; decide)]
    rfl
  · rw [State.sdo_of_op h hop hc, if_pos hp]
    rfl
  · obtain ⟨hlt, hget⟩ := List.getElem?_eq_some_iff.mp hb
    rw [State.sdo_of_complete h hop hc, State.responseByte_of_lt o s hlt, List.getD_eq_getElem?_getD, hb]
    rfl
  · rw [State.sdo_of_complete h hop hc, State.responseByte_of_ended hl ho]
  · refine ⟨s.changeByte n, ?_, s.changeByte_getLsbD n⟩
    rw [State.sdo_of_complete h hop hc, State.responseByte_of_unbegun hl hn]

end Sys2Proof.Machine
end

section
/-!
Good upstream frames that reach no record (R62, R121, R122, R126), PROBE_ANSWER (R47 to R49), ATTENTION and QUIESCE_ACK
(R156, R157, R164).
-/

namespace Sys2Proof.Machine

/-! ### The reception of a good frame (R100, R108, R109) -/

@[simp] theorem State.charTaken_records (n : LineNo) (mark : Bool) (c : RxCond) (s : State) :
    (s.charTaken n mark c).records = s.records := by
  unfold State.charTaken
  split <;> rfl

@[simp] theorem State.charTaken_stations (n : LineNo) (mark : Bool) (c : RxCond) (s : State) :
    (s.charTaken n mark c).stations = s.stations := by
  unfold State.charTaken
  split <;> rfl

@[simp] theorem State.record_charTaken (n : LineNo) (mark : Bool) (c : RxCond) (s : State) (r : RecordIdx) :
    (s.charTaken n mark c).record r = s.record r := State.record_congr (s.charTaken_records n mark c) r

@[simp] theorem State.entry_charTaken (n : LineNo) (mark : Bool) (c : RxCond) (s : State) (st : StationIdx) :
    (s.charTaken n mark c).entry st = s.entry st := State.entry_congr (s.charTaken_stations n mark c) st

/-- A character changes nothing of a line but its receiver and its space run. -/
theorem State.line_charTaken (n m : LineNo) (mark : Bool) (c : RxCond) (s : State) : ∃ rx phase quiet run,
    (s.charTaken n mark c).line m = { s.line m with rx := rx, phase := phase, quiet := quiet, spaceRun := run } := by
  have hset : ∀ rx phase quiet run, ∃ rx' phase' quiet' run',
      (s.setLine n { s.line n with rx := rx, phase := phase, quiet := quiet, spaceRun := run }).line m =
        { s.line m with rx := rx', phase := phase', quiet := quiet', spaceRun := run' } := by
    intro rx phase quiet run
    rw [State.line_setLine]
    split
    · subst m; exact ⟨_, _, _, _, rfl⟩
    · exact ⟨_, _, _, _, rfl⟩
  unfold State.charTaken
  split <;> exact hset _ _ _ _

@[simp] theorem State.charTaken_service (n m : LineNo) (mark : Bool) (c : RxCond) (s : State) :
    ((s.charTaken n mark c).line m).service = (s.line m).service := by
  obtain ⟨_, _, _, _, h⟩ := s.line_charTaken n m mark c
  rw [h]

/-- A good frame whose characters can be received is taken after its last character (R108). -/
theorem State.receiveFrame_eq {s : State} {k : FrameKind} {n : LineNo} {f : UpFields} (take : State → State)
    (hlen : f.payload.length ≤ 32) (hr : s.receivable n (f.frame k).body = true) :
    s.receiveFrame k n f take = take (s.charTaken n true .hunting) := by
  have hwf : f.wf = true := decide_eq_true hlen
  rw [State.receiveFrame, hwf, hr]
  rfl

/-- The report of a REPLY carries its sequence (R174). -/
theorem frameReport_reply (k : ErrorKind) (n : LineNo) (f : UpFields) :
    frameReport k n (f.frame .reply) =
      { kind := k, line := some n, drop := some f.drop, seq := some f.seq
        header := some (f.frame .reply).header, opcode := none } := rfl

/-- The report of a frame that is neither REPLY nor HOLDOFF carries none (R174). -/
theorem frameReport_other (k : ErrorKind) (n : LineNo) (f : UpFields) {g : FrameKind} (hg : g ≠ .reply ∧ g ≠ .holdoff) :
    frameReport k n (f.frame g) =
      { kind := k, line := some n, drop := some f.drop, seq := none
        header := some (f.frame g).header, opcode := none } := by
  have hkind : ¬ ((f.frame g).kind = .reply ∨ (f.frame g).kind = .holdoff) := fun h => h.elim hg.1 hg.2
  rw [frameReport, if_neg hkind]
  rfl

/-! ### Replies that reach no record, and duplicates (R62, R121, R122, R126) -/

/-- Which record holds a sequence depends on the records alone (R76). -/
theorem State.holder_congr {s t : State} (h : t.records = s.records) (st : StationIdx) (q : SeqNo) :
    t.holder st q = s.holder st q := by
  simp only [State.holder, State.record_congr h]

theorem State.holder_none {s : State} {st : StationIdx} {q : SeqNo}
    (h : ∀ r, (s.record r).holds = true → (s.record r).station = st → (s.record r).seq ≠ some q) :
    s.holder st q = none := by
  rw [State.holder, List.find?_eq_none]
  intro r _ hr
  simp only [Bool.and_eq_true, beq_iff_eq] at hr
  exact h r hr.1.1 hr.1.2 hr.2

/-- The end of an event changes no record that is not QUEUED (R91). -/
theorem State.settle_record_of_not_queued {s : State} (h : s.DispatchLawful) (n : LineNo) {r : RecordIdx}
    (hr : (s.record r).state ≠ .queued) : (s.settle n).record r = s.record r := by
  have still := s.still_serviceTests n
  have hsame : (s.serviceTests n).record r = s.record r := State.record_congr (s.serviceTests_records n) r
  rw [State.settle, State.choose_record_of_not_queued, hsame]
  intro k hk
  exact (still.table.dispatch h).not_mem (by rwa [hsame]) hk

/-- A frame from a station that is not PRESENT is stray (R121). -/
theorem State.matchFrame_stray {s : State} (deliver : RecordIdx → State → State) {n : LineNo} {f : Frame}
    (h : (s.entry (stationAt n f.drop)).state ≠ .present) :
    s.matchFrame deliver n f = s.report (frameReport .strayFrame n f) := if_pos h

/-- A frame of a PRESENT station whose sequence no record holds: LATE_REPLY or UNEXPECTED_REPLY (R122). -/
theorem State.matchFrame_unheld {s : State} (deliver : RecordIdx → State → State) {n : LineNo} {f : Frame}
    (h : (s.entry (stationAt n f.drop)).state = .present) (hh : s.holder (stationAt n f.drop) f.seq = none) :
    s.matchFrame deliver n f = (s.signOfLife (stationAt n f.drop)).report
      (frameReport (if (s.entry (stationAt n f.drop)).fence[f.seq.val].isSome then .lateReply else .unexpectedReply) n f) := by
  have hholder : (s.signOfLife (stationAt n f.drop)).holder (stationAt n f.drop) f.seq = none :=
    (State.holder_congr (s := s) (t := s.signOfLife (stationAt n f.drop)) rfl _ _).trans hh
  have hfence : (s.signOfLife (stationAt n f.drop)).fenced (stationAt n f.drop) f.seq =
      (s.entry (stationAt n f.drop)).fence[f.seq.val].isSome := by
    simp [State.fenced, State.signOfLife]
  simp only [State.matchFrame, h, ne_eq, not_true_eq_false, if_false, hholder, hfence]
  split <;> rfl

/-- A frame of a PRESENT station is delivered to the record that holds its sequence (R76). -/
theorem State.matchFrame_held {s : State} (deliver : RecordIdx → State → State) {n : LineNo} {f : Frame} {r : RecordIdx}
    (h : (s.entry (stationAt n f.drop)).state = .present) (hh : s.holder (stationAt n f.drop) f.seq = some r) :
    s.matchFrame deliver n f = (deliver r (s.signOfLife (stationAt n f.drop))).settle n := by
  have hholder : (s.signOfLife (stationAt n f.drop)).holder (stationAt n f.drop) f.seq = some r :=
    (State.holder_congr (s := s) (t := s.signOfLife (stationAt n f.drop)) rfl _ _).trans hh
  simp only [State.matchFrame, h, ne_eq, not_true_eq_false, if_false, hholder]

/-- A segment that a PARTIAL record has already is reported (R126). -/
theorem State.deliverReply_duplicate {s : State} {r : RecordIdx} (n : LineNo) {f : Frame}
    (hr : (s.record r).state = .partly) (hs : f.segment.val < (s.record r).segments) :
    s.deliverReply n f r = s.report (frameReport .lateReply n f) := by
  rw [State.deliverReply, if_neg (by rw [hr]; decide), if_pos hs]

/-- Settles O45: the lookup of R76 ends in a report, and the end of the event reaches QUEUED records alone. -/
theorem replyNotAccepted : Obligations.ReplyNotAccepted := by
  rintro s n f st u v rfl hlen hrec rfl rfl
  have hexec : exec (.reply n f) s = .next ((s.charTaken n true .hunting).matchFrame
      (State.deliverReply n (f.frame .reply)) n (f.frame .reply)) :=
    congrArg Host.Outcome.next (State.receiveFrame_eq _ hlen hrec)
  have hent : (s.charTaken n true .hunting).entry (stationAt n (f.frame .reply).drop) = s.entry (stationAt n f.drop) :=
    s.entry_charTaken n true .hunting _
  have hholder : (s.charTaken n true .hunting).holder (stationAt n (f.frame .reply).drop) (f.frame .reply).seq =
      s.holder (stationAt n f.drop) f.seq := State.holder_congr (s.charTaken_records n true .hunting) _ _
  refine ⟨fun hst => ?_, fun hst hnone => ⟨fun hf => ?_, fun hf => ?_⟩, fun r hst hh hr hseg => ?_⟩
  · rw [hexec, State.matchFrame_stray _ (by rwa [hent])]
    rfl
  · rw [hexec, State.matchFrame_unheld _ (by rwa [hent]) (by rw [hholder]; exact State.holder_none hnone), if_pos]
    · rfl
    · rw [hent]
      exact hf
  · rw [hexec, State.matchFrame_unheld _ (by rwa [hent]) (by rw [hholder]; exact State.holder_none hnone), if_neg]
    · rfl
    · rw [hent, Option.not_isSome_iff_eq_none]
      exact hf
  · have hdup := State.deliverReply_duplicate (s := (s.charTaken n true .hunting).signOfLife (stationAt n f.drop)) n
      (f := f.frame .reply) (r := r) (by simpa [State.signOfLife] using hr) (by
        simp only [State.signOfLife, State.record_setEntry, State.record_charTaken]
        exact hseg)
    rw [hexec, State.matchFrame_held _ (by rwa [hent]) (by rw [hholder]; exact hh)]
    generalize hw : (((s.charTaken n true .hunting).setEntry (stationAt n f.drop)
      { (s.charTaken n true .hunting).entry (stationAt n f.drop) with failures := 0 }).report
        { kind := .lateReply, line := some n, drop := some f.drop, seq := some f.seq
          header := some (f.frame .reply).header, opcode := none }) = w
    have hdeliver : State.deliverReply n (f.frame .reply) r
        ((s.charTaken n true .hunting).signOfLife (stationAt n (f.frame .reply).drop)) = w := hdup.trans hw
    have hrecords : w.records = s.records := by subst hw; exact s.charTaken_records n true .hunting
    rw [hdeliver]
    refine ⟨rfl, by rw [State.serviceTests_records, hrecords], fun t ht hd i hi => ?_⟩
    cases ht
    have hsame : ∀ j, w.record j = s.record j := State.record_congr hrecords
    have hq : ∀ m, (w.line m).dispatchQ = (s.line m).dispatchQ := fun m => by
      subst hw
      obtain ⟨_, _, _, _, hl⟩ := s.line_charTaken n m true .hunting
      show ((s.charTaken n true .hunting).line m).dispatchQ = _
      rw [hl]
    have hdw : w.DispatchLawful := hd.congr hq fun j => by rw [hsame]; exact Record.SameInQueue.refl _
    rw [State.settle_record_of_not_queued hdw n (by rwa [hsame]), hsame]

/-! ### PROBE_ANSWER (R47 to R49, R165) -/

/-- The class code, high byte first (R202). -/
theorem wordOf_eq_append (b1 b2 : Byte) : BitVec.ofNat 16 (wordOf b1 b2) = b1 ++ b2 := by
  apply BitVec.eq_of_toNat_eq
  have h1 := b1.isLt
  have h2 := b2.isLt
  rw [BitVec.toNat_append, ← Nat.shiftLeft_add_eq_or_of_lt h2, Nat.shiftLeft_eq, BitVec.toNat_ofNat, wordOf]
  omega

/-- The entry of an admitted station in the terms of R47 and R49. -/
theorem Entry.admitted_eq (e : Entry) {f : UpFields} {b1 b2 b3 : Byte} (hp : f.payload = [b1, b2, b3]) :
    e.admitted f = { e with
      state := .present, identity := some { classCode := b1 ++ b2, revision := b3 }
      window := some (min 4 f.kindByte.toNat), failures := 0, changed := true, probeDue := false
      replaced := e.replaced ||
        (match e.identity with
          | none => false
          | some i => decide (i ≠ { classCode := b1 ++ b2, revision := b3 })) } := by
  have hid : identityOf f.payload = { classCode := b1 ++ b2, revision := b3 } := by
    rw [hp, ← wordOf_eq_append]
    rfl
  rw [Entry.admitted, hid]
  cases e.identity with
  | none => simp
  | some i => simp [bne, beq_eq_decide]

theorem kindByte_eq_zero (b : Byte) : b.toNat = 0 ↔ b = 0#8 := BitVec.toNat_eq (y := 0#8).symm

/-- A good PROBE_ANSWER admits a station that is ABSENT or LOST (R47). -/
theorem takeProbeAnswer_admits {u : State} {n : LineNo} {f : UpFields}
    (hgood : ¬ (f.kindByte.toNat = 0 ∨ f.payload.length ≠ 3))
    (hst : (u.entry (stationAt n f.drop)).state = .absent ∨ (u.entry (stationAt n f.drop)).state = .lost) :
    takeProbeAnswer n f u = u.makePresent n f := by
  rcases hst with hst | hst
  · simp only [takeProbeAnswer, if_neg hgood, hst]
  · simp only [takeProbeAnswer, if_neg hgood, hst]

/-- Settles O48: the checks of R48 in their order, and the admission by whether the line awaits acknowledgements. -/
theorem probeAnswer : Obligations.ProbeAnswer := by
  rintro s n f st u rep rfl hlen hrec hu hrep
  have hexec : exec (.probeAnswer n f) s = .next (takeProbeAnswer n f u) := by
    rw [hu]
    exact congrArg Host.Outcome.next (State.receiveFrame_eq _ hlen hrec)
  have hent : u.entry (stationAt n f.drop) = s.entry (stationAt n f.drop) := by rw [hu, State.entry_charTaken]
  have hservice : (u.line n).service = (s.line n).service := by rw [hu, State.charTaken_service]
  have hreport : ∀ k, rep k = frameReport k n (f.frame .probeAnswer) := fun k => by
    rw [hrep, frameReport_other _ _ _ (by decide)]
  simp only [hreport, hexec]
  refine ⟨fun hbad => ?_, fun b1 b2 b3 hk hp => ?_⟩
  · rw [takeProbeAnswer, if_pos (by rwa [kindByte_eq_zero])]
  have hgood : ¬ (f.kindByte.toNat = 0 ∨ f.payload.length ≠ 3) := by
    rw [kindByte_eq_zero, hp]
    simpa using hk
  refine ⟨fun hst => ?_, fun hst => ?_, fun hst e he => ?_⟩
  · simp only [takeProbeAnswer, if_neg hgood, hent, hst]
  · simp only [takeProbeAnswer, if_neg hgood, hent, hst]
  have hadmits := takeProbeAnswer_admits (u := u) (n := n) hgood (by rwa [hent])
  have hadmitted : (u.entry (stationAt n f.drop)).admitted f = e := by
    rw [hent, he]
    exact Entry.admitted_eq _ hp
  rw [hadmits]
  simp only [State.makePresent, hadmitted, State.awaitNew, State.line_setEntry, hservice]
  refine ⟨fun hs => by rw [if_neg hs], fun hs => ?_⟩
  rw [if_pos hs, State.entry_setEntry_self, State.setEntry_twice]

/-! ### ATTENTION (R155 to R157) and QUIESCE_ACK (R164, R165) -/

/-- The first slot that is free takes the cause, and none does when both are occupied (R156, R157). -/
theorem State.placeCause_eq (n : LineNo) (f : UpFields) (s : State) :
    ((s.entry (stationAt n f.drop)).presented = none → s.placeCause n f =
      s.setEntry (stationAt n f.drop) { s.entry (stationAt n f.drop) with presented := some f.kindByte }) ∧
    ((s.entry (stationAt n f.drop)).presented ≠ none → (s.entry (stationAt n f.drop)).pendingCause = none →
      s.placeCause n f =
        s.setEntry (stationAt n f.drop) { s.entry (stationAt n f.drop) with pendingCause := some f.kindByte }) ∧
    ((s.entry (stationAt n f.drop)).presented ≠ none → (s.entry (stationAt n f.drop)).pendingCause ≠ none →
      s.placeCause n f = ((s.report (frameReport .attentionRefused n (f.frame .attention))).offer n
        (.attnRefused f.drop f.kindByte)).choose n) := by
  unfold State.placeCause
  dsimp only
  cases (s.entry (stationAt n f.drop)).presented with
  | none => exact ⟨fun _ => rfl, fun h => absurd rfl h, fun h => absurd rfl h⟩
  | some c =>
    cases (s.entry (stationAt n f.drop)).pendingCause with
    | none => exact ⟨nofun, fun _ _ => rfl, fun _ h => absurd rfl h⟩
    | some d => exact ⟨nofun, fun _ => nofun, fun _ _ => rfl⟩

theorem State.allAcked_iff (s : State) (n : LineNo) : s.allAcked n = true ↔
    ∀ d, (s.entry (stationAt n d)).state = .present → (s.entry (stationAt n d)).ackMark = true := by
  simp only [State.allAcked, List.all_eq_true, List.mem_finRange, true_implies, Bool.or_eq_true, bne_iff_ne, ne_eq,
    ← imp_iff_not_or]

/-- A good ATTENTION (R156). -/
theorem takeAttention_eq {s : State} {n : LineNo} {f : UpFields} (h : (s.entry (stationAt n f.drop)).state = .present) :
    takeAttention n f s = (s.signOfLife (stationAt n f.drop)).placeCause n f := if_neg (not_not.mpr h)

/-- A good QUIESCE_ACK of a PRESENT station, by the service state of its line (R164). -/
theorem takeQuiesceAck_eq {s : State} {n : LineNo} {f : UpFields} (h : (s.entry (stationAt n f.drop)).state = .present) :
    takeQuiesceAck n f s =
      match (s.line n).service with
      | .opened | .draining =>
        (s.signOfLife (stationAt n f.drop)).report (frameReport .strayFrame n (f.frame .quiesceAck))
      | .awaitingAcks => ((s.signOfLife (stationAt n f.drop)).markAck (stationAt n f.drop)).testAcks n
      | .quiesced => (s.signOfLife (stationAt n f.drop)).markAck (stationAt n f.drop) :=
  if_neg (not_not.mpr h)

/-- Settles O49: ATTENTION by the slots that are free, QUIESCE_ACK by the line's service state. -/
theorem attentionAndQuiesceAck : Obligations.AttentionAndQuiesceAck := by
  rintro s n f st u v rep rfl hlen hu hv hrep
  have hent : u.entry (stationAt n f.drop) = s.entry (stationAt n f.drop) := by rw [hu, State.entry_charTaken]
  have hservice : (u.line n).service = (s.line n).service := by rw [hu, State.charTaken_service]
  have hlife : u.signOfLife (stationAt n f.drop) = v := hv.symm
  have hself : v.entry (stationAt n f.drop) = { u.entry (stationAt n f.drop) with failures := 0 } := by
    rw [hv, State.entry_setEntry_self]
  refine ⟨fun hrec => ?_, fun hrec => ?_⟩
  · have hexec : exec (.attention n f) s = .next (takeAttention n f u) := by
      rw [hu]
      exact congrArg Host.Outcome.next (State.receiveFrame_eq _ hlen hrec)
    have hreport : ∀ k, rep .attention k = frameReport k n (f.frame .attention) := fun k => by
      rw [hrep, frameReport_other _ _ _ (by decide)]
    obtain ⟨hfree, hpending, hfull⟩ := v.placeCause_eq n f
    rw [hself, hent] at hfree hpending hfull
    rw [hexec]
    refine ⟨fun hst => ?_, fun hst => ⟨fun hp => ?_, fun hp hq => ?_, fun hp hq => ?_⟩⟩
    · rw [takeAttention, if_pos (by rwa [hent]), hreport]
    · rw [takeAttention_eq (by rwa [hent]), hlife, hfree hp, hv, State.setEntry_twice, hent]
    · rw [takeAttention_eq (by rwa [hent]), hlife, hpending hp hq, hv, State.setEntry_twice, hent]
    · rw [takeAttention_eq (by rwa [hent]), hlife, hfull hp hq, hreport]
  · have hexec : exec (.quiesceAck n f) s = .next (takeQuiesceAck n f u) := by
      rw [hu]
      exact congrArg Host.Outcome.next (State.receiveFrame_eq _ hlen hrec)
    have hreport : ∀ k, rep .quiesceAck k = frameReport k n (f.frame .quiesceAck) := fun k => by
      rw [hrep, frameReport_other _ _ _ (by decide)]
    rw [hexec]
    refine ⟨fun hst => ?_, fun hst => ?_⟩
    · rw [takeQuiesceAck, if_pos (by rwa [hent]), hreport]
    rw [takeQuiesceAck_eq (by rwa [hent]), hservice, hlife]
    refine ⟨fun hs => ?_, fun w hw => ?_⟩
    · rw [hreport]
      rcases hs with hs | hs <;> rw [hs]
    have hmark : v.markAck (stationAt n f.drop) = w := by
      rw [State.markAck, hself, hv, State.setEntry_twice, hw]
    have hwait : (w.line n).service = (s.line n).service := by rw [hw, State.line_setEntry, hservice]
    refine ⟨fun hs => by rw [hs, hmark], fun hs => ⟨fun hall => ?_, fun ⟨d, hd, hm⟩ => ?_⟩⟩
    · rw [hs, hmark]
      show Host.Outcome.next (w.testAcks n) = _
      rw [State.testAcks, if_pos ⟨hwait.trans hs, (w.allAcked_iff n).mpr hall⟩]
      rfl
    · rw [hs, hmark]
      show Host.Outcome.next (w.testAcks n) = _
      rw [State.testAcks, if_neg]
      rintro ⟨-, hall⟩
      rw [(w.allAcked_iff n).mp hall d hd] at hm
      cases hm

end Sys2Proof.Machine
end

section
/-!
The tick boundary and the expiries of fences, probe due ticks and the idle timer (R63, R74, R118, R119, R150).
-/

namespace Sys2Proof.Machine

/-! ### What has expired -/

theorem State.passed_iff (s : State) (e : Tick) :
    s.passed e = true ↔ 0 < (s.tick - e).toNat ∧ (s.tick - e).toNat < 2147483648 := by
  simp [State.passed]

theorem StationState.probed_iff (x : StationState) : x.probed = true ↔ x = .absent ∨ x = .lost := by
  cases x <;> simp [StationState.probed]

theorem State.fenceOver_iff (s : State) (st : StationIdx) : s.fenceOver st = true ↔
    ∃ (q : SeqNo) (e : Tick), (s.entry st).fence[q.val] = some e ∧ s.passed e = true := by
  rw [State.fenceOver, vector_any_iff]
  refine exists_congr fun q => ?_
  cases (s.entry st).fence[q.val] <;> simp

theorem State.probeOver_iff (s : State) (st : StationIdx) : s.probeOver st = true ↔
    ((s.entry st).state = .absent ∨ (s.entry st).state = .lost) ∧ (s.entry st).probeDue = false ∧
      s.passed (s.entry st).probeTick = true := by
  simp only [State.probeOver, Bool.and_eq_true, StationState.probed_iff, Bool.not_eq_true', and_assoc]

theorem State.idleOver_iff (s : State) : s.idleOver = true ↔ ∃ e, s.idleTimer = some e ∧ s.passed e = true := by
  unfold State.idleOver
  cases s.idleTimer <;> simp

/-! ### Each expiry acts when it is over, and only then -/

theorem exec_fenceExpiry_of_over {s : State} {st : StationIdx} (ho : s.operating = true) (h : s.fenceOver st = true) :
    exec (.fenceExpiry st) s = .next ((s.emptyFences st).choose (lineOf st)) :=
  congrArg Host.Outcome.next (if_pos (by rw [ho, h]; rfl))

theorem exec_fenceExpiry_of_not_over {s : State} {st : StationIdx} (h : ¬ s.fenceOver st = true) :
    exec (.fenceExpiry st) s = .next s :=
  congrArg Host.Outcome.next (if_neg (by rw [Bool.and_eq_true]; exact fun hb => h hb.2))

theorem exec_probeDue_of_over {s : State} {st : StationIdx} (ho : s.operating = true) (h : s.probeOver st = true) :
    exec (.probeDue st) s =
      .next (((s.setEntry st { s.entry st with probeDue := true }).probeSweep (lineOf st)).choose (lineOf st)) :=
  congrArg Host.Outcome.next (if_pos (by rw [ho, h]; rfl))

theorem exec_probeDue_of_not_over {s : State} {st : StationIdx} (h : ¬ s.probeOver st = true) :
    exec (.probeDue st) s = .next s :=
  congrArg Host.Outcome.next (if_neg (by rw [Bool.and_eq_true]; exact fun hb => h hb.2))

theorem exec_idleTimerExpiry_of_over {s : State} (ho : s.operating = true) (h : s.idleOver = true)
    (hq : s.completionQ ≠ []) : exec .idleTimerExpiry s = .next { s with signalC := true, idleTimer := none } := by
  have hsignal : (s.signalC || !s.completionQ.isEmpty) = true := by simp [hq]
  refine congrArg Host.Outcome.next ((if_pos (by rw [ho, h]; rfl)).trans ?_)
  rw [hsignal]

theorem exec_idleTimerExpiry_of_not_over {s : State} (h : ¬ s.idleOver = true) : exec .idleTimerExpiry s = .next s :=
  congrArg Host.Outcome.next (if_neg (by rw [Bool.and_eq_true]; exact fun hb => h hb.2))

/-- Emptied fences change the fence of one entry alone, by place (R74). -/
theorem State.emptyFences_spec (st : StationIdx) (s : State) :
    s.emptyFences st = s.setEntry st { s.entry st with fence := ((s.emptyFences st).entry st).fence } ∧
    ∀ p : SeqNo, ((s.emptyFences st).entry st).fence[p.val] =
      ((s.entry st).fence[p.val]).bind (fun e => if s.passed e then none else some e) := by
  have hself : ((s.emptyFences st).entry st).fence =
      Vector.ofFn fun i => expiredPlace s (s.entry st).fence[i.val] := by
    rw [State.emptyFences, State.entry_setEntry_self]
  refine ⟨by rw [hself]; rfl, fun p => ?_⟩
  rw [hself, Vector.getElem_ofFn]
  unfold expiredPlace
  cases (s.entry st).fence[p.val] <;> rfl

/-! ### The events of a station and of the idle timer -/

/-- An expiry of a station's fence or probe due tick can only be an event of that station. -/
theorem State.mem_due_of_station {s : State} (ho : s.operating = true) {st : StationIdx} {c : Instr}
    (hc : c ∈ [Instr.fenceExpiry st, .probeDue st]) : c ∈ s.due ↔ c ∈ s.dueStation st := by
  rw [State.mem_due ho]
  simp only [List.mem_cons, List.not_mem_nil, or_false] at hc
  constructor
  · rintro (⟨-, rfl⟩ | ⟨n, hl⟩ | ⟨i, hi⟩ | ⟨i, hi⟩ | ⟨-, rfl⟩)
    · simp at hc
    · obtain ⟨b, hb⟩ := State.mem_dueLine hl
      simp only [List.mem_cons, List.not_mem_nil, or_false] at hb
      rcases hc with rfl | rfl <;> simp at hb
    · simp only [State.dueRecord, List.mem_append, mem_dueIf] at hi
      rcases hc with rfl | rfl <;> simp at hi
    · have his : i = st := by
        simp only [State.dueStation, List.mem_append, mem_dueIf] at hi
        rcases hc with rfl | rfl <;> simp at hi <;> exact hi.2.symm
      exact his ▸ hi
    · simp at hc
  · exact fun h => .inr (.inr (.inr (.inl ⟨st, h⟩)))

theorem State.mem_due_idleTimerExpiry {s : State} (ho : s.operating = true) :
    .idleTimerExpiry ∈ s.due ↔ s.idleOver = true := by
  rw [State.mem_due ho]
  constructor
  · rintro (⟨-, h⟩ | ⟨n, hl⟩ | ⟨i, hi⟩ | ⟨i, hi⟩ | ⟨h, -⟩)
    · cases h
    · obtain ⟨b, hb⟩ := State.mem_dueLine hl
      simp at hb
    · simp [State.dueRecord] at hi
    · simp [State.dueStation] at hi
    · exact h
  · exact fun h => .inr (.inr (.inr (.inr ⟨h, rfl⟩)))

/-- Settles O51: each expiry by whether its tick has passed. -/
theorem tickAndExpiries : Obligations.TickAndExpiries := by
  intro s ho
  refine ⟨congrArg Host.Outcome.next (if_pos ho), s.passed_iff, fun st => ⟨fun q e hf hp => ?_, fun hf => ?_,
    fun hst hd => ⟨fun hp => ?_, fun hp => ?_⟩⟩, fun e he => ⟨fun hp hq => ?_, fun hp => ?_⟩, fun hn => ?_,
    fun st => ⟨?_, ?_⟩, ?_⟩
  · exact ⟨s.emptyFences st, exec_fenceExpiry_of_over ho ((s.fenceOver_iff st).mpr ⟨q, e, hf, hp⟩),
      s.emptyFences_spec st⟩
  · refine exec_fenceExpiry_of_not_over fun h => ?_
    obtain ⟨q, e, hq, hp⟩ := (s.fenceOver_iff st).mp h
    exact absurd hp (by simp [hf q e hq])
  · exact exec_probeDue_of_over ho ((s.probeOver_iff st).mpr ⟨hst, hd, hp⟩)
  · refine exec_probeDue_of_not_over fun h => ?_
    obtain ⟨-, -, hpassed⟩ := (s.probeOver_iff st).mp h
    exact absurd hpassed (by simp [hp])
  · exact exec_idleTimerExpiry_of_over ho (s.idleOver_iff.mpr ⟨e, he, hp⟩) hq
  · refine exec_idleTimerExpiry_of_not_over fun h => ?_
    obtain ⟨e', he', hpassed⟩ := s.idleOver_iff.mp h
    cases he.symm.trans he'
    exact absurd hpassed (by simp [hp])
  · refine exec_idleTimerExpiry_of_not_over fun h => ?_
    obtain ⟨e, he, -⟩ := s.idleOver_iff.mp h
    cases hn.symm.trans he
  · rw [State.mem_due_of_station ho (st := st) (by simp), ← State.fenceOver_iff]
    simp [State.dueStation]
  · rw [State.mem_due_of_station ho (st := st) (by simp), ← State.probeOver_iff]
    simp [State.dueStation]
  · rw [State.mem_due_idleTimerExpiry ho, State.idleOver_iff]

end Sys2Proof.Machine
end

section
/-!
Control frames offered to a line, and the presence sweep with any number of frames in its control queue (R63, R64,
R86 to R88).
-/

namespace Sys2Proof.Machine

/-! ### The sweep offers to the ready drops, in their order (R63) -/

/-- The PROBE of a drop that is to be probed now (R63). -/
def State.probeDrop (n : LineNo) (s : State) (d : DropNo) : State :=
  (s.offer n (.probe d)).setEntry (stationAt n d)
    ((s.entry (stationAt n d)).probedAt (s.after s.params.probeInterval[n.val]))

theorem State.probeOne_eq_probeDrop {s : State} {n : LineNo} {d : DropNo} (h : s.probeReady n d = true) :
    s.probeOne n d = s.probeDrop n d := if_pos h

theorem State.quiet_probeDrop (n : LineNo) (s : State) (d : DropNo) : s.Quiet (s.probeDrop n d) :=
  (s.quiet_offer _ _).trans (State.quiet_setEntry _ _ _)

theorem State.entry_probeDrop (n : LineNo) (s : State) (d : DropNo) (st : StationIdx) :
    (s.probeDrop n d).entry st = if st = stationAt n d then
      (s.entry st).probedAt (s.after s.params.probeInterval[n.val]) else s.entry st := by
  rw [State.probeDrop, State.entry_setEntry, State.entry_congr (State.offer_stations n _ s)]
  split
  · next h => rw [h]
  · rfl

theorem State.line_probeDrop (n m : LineNo) (s : State) (d : DropNo) :
    (s.probeDrop n d).line m = (s.offer n (.probe d)).line m := State.line_setEntry _ _ _ _

/-- Whether a drop is to be probed, after the PROBE of another. -/
theorem State.probeReady_probeDrop_ne {s : State} {n : LineNo} {d e : DropNo} (hde : e ≠ d) :
    (s.probeDrop n d).probeReady n e = s.probeReady n e := by
  have hst : stationAt n e ≠ stationAt n d := fun he => hde (stationAt_inj.mp he).2
  obtain ⟨q, hq⟩ := State.offer_line_fields n n (.probe d) s
  simp only [State.probeReady, State.entry_probeDrop, if_neg hst, State.line_probeDrop, hq]

theorem State.foldl_probeOne_eq (n : LineNo) {ds : List DropNo} (hn : ds.Nodup) (s : State) :
    ds.foldl (State.probeOne n) s = (ds.filter (s.probeReady n ·)).foldl (State.probeDrop n) s := by
  induction ds generalizing s with
  | nil => rfl
  | cons d ds ih =>
    obtain ⟨hd, hn⟩ := List.nodup_cons.mp hn
    rw [List.foldl_cons]
    cases h : s.probeReady n d with
    | false => rw [State.probeOne_of_not_ready h, ih hn, List.filter_cons_of_neg (by rw [h]; simp)]
    | true =>
      have hready : ∀ e ∈ ds, (s.probeDrop n d).probeReady n e = s.probeReady n e := fun e he =>
        State.probeReady_probeDrop_ne (ne_of_mem_of_not_mem he hd)
      rw [State.probeOne_eq_probeDrop h, ih hn, List.filter_congr hready, List.filter_cons, if_pos h,
        List.foldl_cons]

/-! ### What the offers come to (R63, R86, R87) -/

/-- The PROBEs of some drops reported as CONTROL_DROPPED, in their order (R87). -/
def State.dropProbes (n : LineNo) (ds : List DropNo) (s : State) : State :=
  ds.foldl (fun u d => u.report (droppedOf n (.probe d))) s

/-- What the reports come to depends on the error classes and the fault account alone (R173). -/
theorem State.dropProbes_faults_congr {s t : State} (hp : t.params = s.params) (hf : t.faults = s.faults) (n : LineNo)
    (ds : List DropNo) : (t.dropProbes n ds).faults = (s.dropProbes n ds).faults := by
  induction ds generalizing s t with
  | nil => exact hf
  | cons d ds ih => exact ih (by exact hp) (by simp only [State.report, hp, hf])

/-- What PROBEs for some drops of an UP line come to: those that find room join the queue, the others are reported. -/
structure State.Offered (n : LineNo) (ds : List DropNo) (s t : State) : Prop where
  line : t.line n = { s.line n with
    controlQ := (s.line n).controlQ ++ (ds.take (Config.controlCapacity - (s.line n).controlQ.length)).map .probe }
  others : ∀ m, m ≠ n → t.line m = s.line m
  entry : ∀ d, t.entry (stationAt n d) = if d ∈ ds then
    (s.entry (stationAt n d)).probedAt (s.after s.params.probeInterval[n.val]) else s.entry (stationAt n d)
  away : ∀ st, lineOf st ≠ n → t.entry st = s.entry st
  faults : t.faults = (s.dropProbes n (ds.drop (Config.controlCapacity - (s.line n).controlQ.length))).faults

theorem State.offered_foldl (n : LineNo) {ds : List DropNo} (hn : ds.Nodup) {s : State} (hup : (s.line n).link = .up) :
    s.Offered n ds (ds.foldl (State.probeDrop n) s) := by
  induction ds generalizing s with
  | nil => exact ⟨by simp, fun _ _ => rfl, fun d => by simp, fun _ _ => rfl, by rw [List.drop_nil]; rfl⟩
  | cons d ds ih =>
    obtain ⟨hd, hn⟩ := List.nodup_cons.mp hn
    obtain ⟨q, hq⟩ := State.offer_line_fields n n (.probe d) s
    have hrest := (s.quiet_probeDrop n d).rest
    have hlink : ((s.probeDrop n d).line n).link = .up := by rw [State.line_probeDrop, hq]; exact hup
    have hafter : ∀ k, (s.probeDrop n d).after k = s.after k := fun k => by rw [State.after, hrest.tick]; rfl
    obtain ⟨h1, h2, h3, h4, h5⟩ := ih hn hlink
    rw [List.foldl_cons]
    have hentry : ∀ e, (ds.foldl (State.probeDrop n) (s.probeDrop n d)).entry (stationAt n e) =
        if e ∈ d :: ds then (s.entry (stationAt n e)).probedAt (s.after s.params.probeInterval[n.val])
        else s.entry (stationAt n e) := fun e => by
      rw [h3, hafter, hrest.params, State.entry_probeDrop]
      by_cases he : e = d
      · subst he
        rw [if_neg hd, if_pos rfl, if_pos List.mem_cons_self]
      · have hst : stationAt n e ≠ stationAt n d := fun hc => he (stationAt_inj.mp hc).2
        rw [if_neg hst]
        exact if_congr (by simp [he]) rfl rfl
    have hothers : ∀ m, m ≠ n → (ds.foldl (State.probeDrop n) (s.probeDrop n d)).line m = s.line m := fun m hm => by
      rw [h2 m hm, State.line_probeDrop, State.offer_line_ne hm]
    have haway : ∀ st, lineOf st ≠ n → (ds.foldl (State.probeDrop n) (s.probeDrop n d)).entry st = s.entry st :=
      fun st hst => by
        rw [h4 st hst, State.entry_probeDrop, if_neg fun hc => hst (by rw [hc, lineOf_stationAt])]
    rcases State.offer_cases n (.probe d) s with ⟨-, hroom, ho⟩ | ⟨-, hfull, ho⟩ | ⟨hdown, -⟩
    · have hline : (s.probeDrop n d).line n = { s.line n with controlQ := (s.line n).controlQ ++ [.probe d] } := by
        rw [State.line_probeDrop, ho, State.line_setLine_self]
      have hfaults : (s.probeDrop n d).faults = s.faults := by rw [State.probeDrop, ho]; rfl
      obtain ⟨k, hk⟩ : ∃ k, Config.controlCapacity - (s.line n).controlQ.length = k + 1 :=
        Nat.exists_eq_succ_of_ne_zero (Nat.sub_ne_zero_of_lt hroom)
      have hleft : Config.controlCapacity - ((s.line n).controlQ ++ [ControlFrame.probe d]).length = k := by
        rw [List.length_append, List.length_singleton]
        omega
      rw [hline, hleft] at h1 h5
      refine ⟨?_, hothers, hentry, haway, ?_⟩
      · rw [h1, hk, List.take_succ_cons, List.map_cons, List.append_assoc]
        rfl
      · rw [h5, hk, List.drop_succ_cons]
        exact State.dropProbes_faults_congr hrest.params hfaults n _
    · have hline : (s.probeDrop n d).line n = s.line n := by rw [State.line_probeDrop, ho]; rfl
      have hfaults : (s.probeDrop n d).faults = (s.report (droppedOf n (.probe d))).faults := by
        rw [State.probeDrop, ho]; rfl
      have hnone : Config.controlCapacity - (s.line n).controlQ.length = 0 := by omega
      rw [hline, hnone] at h1 h5
      refine ⟨?_, hothers, hentry, haway, ?_⟩
      · rw [h1, hnone]
        rfl
      · rw [h5, hnone]
        exact State.dropProbes_faults_congr (s := s.report (droppedOf n (.probe d))) hrest.params hfaults n _
    · exact absurd hup hdown

/-- A state that keeps the records and the Completion Unit. -/
theorem State.Quiet.eq {s t : State} (h : s.Quiet t) (hr : t.records = s.records) :
    t = { s with stations := t.stations, lines := t.lines, faults := t.faults } := by
  obtain ⟨⟨h1, h2, h3, h4, h5, h6, h7, h8, h9, h10⟩, h11, h12, h13⟩ := h
  cases t
  simp only at *
  subst h1 h2 h3 h4 h5 h6 h7 h8 h9 h10 h11 h12 h13 hr
  rfl

/-- The sweep of a line that is not UP or not OPEN finds nothing to probe (R63). -/
theorem State.probeSweep_of_closed {s : State} {n : LineNo} (h : (s.line n).link ≠ .up ∨ (s.line n).service ≠ .opened) :
    s.probeSweep n = s := by
  have hready : ∀ d, s.probeReady n d = false := fun d => by
    rw [State.probeReady]
    rcases h with h | h <;> simp [h]
  rw [State.probeSweep, State.foldl_probeOne_eq n (List.nodup_finRange 8)]
  simp [hready]

/-- Settles O40: the sweep is the fold of the ready drops' offers. -/
theorem controlFrames : Obligations.ControlFrames := by
  intro s n
  refine ⟨fun c => ⟨fun hl => if_neg hl, fun hl hq => ?_, fun hl hq => ?_⟩, State.probeSweep_of_closed,
    fun hl ho t ds ht hds => ?_⟩
  · exact (if_pos hl).trans (if_pos hq)
  · exact (if_pos hl).trans (if_neg (Nat.not_lt.mpr hq))
  · have hready : (List.finRange 8).filter (s.probeReady n ·) = ds := by
      rw [hds]
      refine List.filter_congr fun d _ => Bool.eq_iff_iff.mpr ?_
      simp only [State.probeReady, hl, ho, Bool.and_eq_true, StationState.probed_iff, Bool.or_eq_true, beq_iff_eq,
        and_true]
      exact and_comm
    have hnodup : ds.Nodup := by rw [hds]; exact (List.nodup_finRange 8).filter _
    have hoffered : s.Offered n ds t := by
      rw [ht, State.probeSweep, State.foldl_probeOne_eq n (List.nodup_finRange 8), hready]
      exact State.offered_foldl n hnodup hl
    refine ⟨fun d hd => ?_, fun d hd => ?_, hoffered.away, hoffered.line, hoffered.others, hoffered.faults, ?_⟩
    · rw [hoffered.entry, if_pos hd]
      rfl
    · rw [hoffered.entry, if_neg hd]
    · rw [ht]
      exact (s.quiet_probeSweep n).eq (s.probeSweep_records n)

end Sys2Proof.Machine
end

section
/-!
What a change of a line's link condition does (R56 to R58, R80, R95, R112 to R114, R168).
-/

namespace Sys2Proof.Machine

/-! ### A line that comes UP (R56, R112) -/

theorem Entry.dueIfProbed_eq (t : Tick) : Entry.dueIfProbed t =
    fun e => if e.state = .absent ∨ e.state = .lost then { e with probeTick := t, probeDue := true } else e :=
  funext fun e => if_congr e.state.probed_iff rfl rfl

theorem exec_linkUp {s : State} {n : LineNo} (ho : s.operating = true) (hl : (s.line n).link = .down)
    (hm : s.pins.rxdMark[n.val] = true ∨ 40 * s.params.lineRate[n.val] ≤ (s.line n).markRun) :
    exec (.linkUp n) s = .next (s.linkUp n) := by
  refine congrArg Host.Outcome.next (if_pos ?_)
  simpa [ho, hl, State.markReached] using hm

theorem exec_linkDown {s : State} {n : LineNo} (ho : s.operating = true) (hl : (s.line n).link = .up)
    (hm : s.pins.rxdMark[n.val] = false ∨ 20 * s.params.lineRate[n.val] ≤ (s.line n).spaceRun) :
    exec (.linkDown n) s = .next (s.linkDown n) := by
  refine congrArg Host.Outcome.next (if_pos ?_)
  simpa [ho, hl, State.spaceReached] using hm

/-! ### The end of an event on a line without link (R162 to R168) -/

/-- The arbiter chooses nothing on a line that is not UP and has no control frame (R89, R90). -/
theorem State.choose_of_not_up {s : State} {n : LineNo} (hl : (s.line n).link ≠ .up) (hc : (s.line n).controlQ = []) :
    s.choose n = s := by
  rcases State.choose_cases n s with h | ⟨-, -, -, ⟨c, rest, hq, -⟩ | ⟨h, -, -, he, -⟩⟩
  · exact h
  · rw [hc] at hq
    cases hq
  · simp [State.eligible, hl] at he

theorem State.offerAll_of_not_up {s : State} {n : LineNo} (hl : (s.line n).link ≠ .up) (cs : List ControlFrame) :
    s.offerAll n cs = s := by
  induction cs with
  | nil => rfl
  | cons c cs ih =>
    rw [State.offerAll, List.foldl_cons, State.offer, if_neg hl]
    exact ih

/-- Without PRESENT stations nothing is waited for (R165). -/
theorem State.allAcked_of_no_present {s : State} {n : LineNo} (hp : ∀ d, (s.entry (stationAt n d)).state ≠ .present) :
    s.allAcked n = true := (s.allAcked_iff n).mpr fun d hd => absurd hd (hp d)

/-- The line service of a line that has lost its link: a wait for records or for acknowledgements is over (R168). -/
def State.endWait (n : LineNo) (s : State) : State :=
  match (s.line n).service with
  | .draining => (s.mapLineEntries n (fun e => { e with ackMark := false })).enterQuiesced n .allAcked
  | .awaitingAcks => s.enterQuiesced n .allAcked
  | .opened => s
  | .quiesced => s

theorem State.enterAwaiting_of_not_up {s : State} {n : LineNo} (hl : (s.line n).link ≠ .up)
    (hp : ∀ d, (s.entry (stationAt n d)).state ≠ .present) :
    s.enterAwaiting n = (s.mapLineEntries n (fun e => { e with ackMark := false })).enterQuiesced n .allAcked := by
  have hoffer : ∀ cs, ((s.mapLineEntries n (fun e => { e with ackMark := false })).setLine n
      { s.line n with service := .awaitingAcks, quiesceDeadline := some (s.after s.params.quiesceDeadline) }).offerAll n
        cs = (s.mapLineEntries n (fun e => { e with ackMark := false })).setLine n
      { s.line n with service := .awaitingAcks, quiesceDeadline := some (s.after s.params.quiesceDeadline) } :=
    State.offerAll_of_not_up (by rwa [State.line_setLine_self])
  have hquiet := (s.quiet_mapLineEntries n (fun e => { e with ackMark := false })).rest
  simp only [State.enterAwaiting, State.line_mapLineEntries, State.after, hquiet.tick, hquiet.params] at hoffer ⊢
  rw [hoffer, State.testAcks, if_pos ⟨by rw [State.line_setLine_self], State.allAcked_of_no_present fun d => by
    rw [State.entry_setLine, State.entry_mapLineEntries, if_pos (lineOf_stationAt n d)]; exact hp d⟩]
  simp only [State.enterQuiesced, State.line_setLine_self, State.setLine_twice, State.line_mapLineEntries]

/-- The end of the event in which a line has lost its link, its live records and its PRESENT stations. -/
theorem State.settle_of_unlinked {s : State} {n : LineNo} (hl : (s.line n).link ≠ .up) (hc : (s.line n).controlQ = [])
    (hd : s.drained n = true) (hp : ∀ d, (s.entry (stationAt n d)).state ≠ .present) : s.settle n = s.endWait n := by
  have hquiesced : ∀ u : State, u.line n = s.line n → ((u.enterQuiesced n .allAcked).testAcks n).choose n =
      u.enterQuiesced n .allAcked := fun u hu => by
    have hline : (u.enterQuiesced n .allAcked).line n = { s.line n with
        service := .quiesced, quiesceDeadline := none, quiesceOutcome := some .allAcked, quiesceFinished := true } := by
      rw [State.enterQuiesced, State.line_setLine_self, hu]
    rw [State.testAcks, if_neg (by rw [hline]; exact fun h => nomatch h.1)]
    exact State.choose_of_not_up (by rwa [hline]) (by rwa [hline])
  have hstay : (s.line n).service = .opened ∨ (s.line n).service = .quiesced → s.settle n = s := fun h => by
    have htests : s.serviceTests n = s := by
      rcases h with h | h <;> simp [State.serviceTests, State.testDrain, State.testAcks, h]
    rw [State.settle, htests, State.choose_of_not_up hl hc]
  unfold State.endWait
  cases hs : (s.line n).service with
  | opened => exact hstay (.inl hs)
  | quiesced => exact hstay (.inr hs)
  | draining =>
    rw [State.settle, State.serviceTests, State.testDrain, if_pos ⟨hs, hd⟩, State.enterAwaiting_of_not_up hl hp,
      hquiesced _ (State.line_mapLineEntries _ _ _ _)]
  | awaitingAcks =>
    have hacked := State.allAcked_of_no_present hp
    rw [State.settle, State.serviceTests, State.testDrain, if_neg (by rw [hs]; exact fun h => nomatch h.1),
      State.testAcks, if_pos ⟨hs, hacked⟩, State.choose_of_not_up]
    · rwa [State.enterQuiesced, State.line_setLine_self]
    · rwa [State.enterQuiesced, State.line_setLine_self]

theorem State.quiet_endWait (n : LineNo) (s : State) : s.Quiet (s.endWait n) := by
  unfold State.endWait
  split
  · exact (s.quiet_mapLineEntries n _).trans (State.quiet_setLine _ _ _)
  · exact s.quiet_setLine _ _
  · exact State.Quiet.refl s
  · exact State.Quiet.refl s

theorem State.endWait_records (n : LineNo) (s : State) : (s.endWait n).records = s.records := by
  unfold State.endWait
  split <;> simp [State.enterQuiesced, State.mapLineEntries]

theorem State.endWait_faults (n : LineNo) (s : State) : (s.endWait n).faults = s.faults := by
  unfold State.endWait
  split <;> simp [State.enterQuiesced, State.mapLineEntries]

/-- A line waits for its records or for acknowledgements (R162, R165). -/
def Line.waits (l : Line) : Bool := l.service == .draining || l.service == .awaitingAcks

theorem State.line_endWait (n : LineNo) (s : State) : (s.endWait n).line n = { s.line n with
    service := if (s.line n).waits then .quiesced else (s.line n).service
    quiesceDeadline := if (s.line n).waits then none else (s.line n).quiesceDeadline
    quiesceOutcome := if (s.line n).waits then some .allAcked else (s.line n).quiesceOutcome
    quiesceFinished := (s.line n).waits || (s.line n).quiesceFinished } := by
  unfold State.endWait
  split
  · next h => simp [Line.waits, h, State.enterQuiesced]
  · next h => simp [Line.waits, h, State.enterQuiesced]
  · next h =>
    have hw : (s.line n).waits = false := by rw [Line.waits, h]; rfl
    simp [hw]
  · next h =>
    have hw : (s.line n).waits = false := by rw [Line.waits, h]; rfl
    simp [hw]

theorem State.line_endWait_ne {n m : LineNo} (hm : m ≠ n) (s : State) : (s.endWait n).line m = s.line m := by
  unfold State.endWait State.enterQuiesced
  split
  · rw [State.line_setLine_ne _ hm, State.line_mapLineEntries]
  · rw [State.line_setLine_ne _ hm]
  · rfl
  · rfl

theorem State.entry_endWait (n : LineNo) (s : State) (st : StationIdx) : (s.endWait n).entry st =
    if lineOf st = n then { s.entry st with ackMark := (s.entry st).ackMark && (s.line n).service != .draining }
    else s.entry st := by
  unfold State.endWait State.enterQuiesced
  split
  · next h => simp [h]
  all_goals
    rename_i h
    have hd : ((s.line n).service != .draining) = true := by rw [h]; rfl
    simp [hd]

/-! ### The loss of a link (R57, R58, R113, R114) -/

/-- A line loses its link, up to the tests of the line service and the arbiter's choice. -/
def State.unlink (n : LineNo) (k : Link) (f : Bool) (g : Entry → Entry) (s : State) : State :=
  ((s.setLine n ((s.line n).unlinked k)).endRecords .lineDown f (s.liveOnLine n)).mapLineEntries n g

theorem State.mem_liveOnLine (s : State) (n : LineNo) (r : RecordIdx) :
    r ∈ s.liveOnLine n ↔ (s.record r).state.live = true ∧ (s.record r).line = n := by
  rw [State.liveOnLine, State.mem_liveWhere, beq_iff_eq]

theorem State.record_unlink (n : LineNo) (k : Link) (f : Bool) (g : Entry → Entry) (s : State) (r : RecordIdx) :
    (s.unlink n k f g).record r = if r ∈ s.liveOnLine n then (s.record r).ended .lineDown else s.record r := by
  rw [State.unlink, State.mapLineEntries, State.record_mapEntries, State.record_endRecords, State.record_setLine]

theorem State.line_unlink (n : LineNo) (k : Link) (f : Bool) (g : Entry → Entry) (s : State) :
    (s.unlink n k f g).line n =
      { (s.line n).unlinked k with dispatchQ := ((s.unlink n k f g).line n).dispatchQ } := by
  simp only [State.unlink, State.line_mapLineEntries, State.line_endRecords, State.line_setLine_self]

theorem State.line_unlink_ne {n m : LineNo} (hm : m ≠ n) (k : Link) (f : Bool) (g : Entry → Entry) (s : State) :
    (s.unlink n k f g).line m = s.line m := by
  rw [State.unlink, State.line_mapLineEntries, State.line_endRecords, State.line_setLine_ne _ hm,
    List.filter_eq_self.mpr]
  intro h _
  simp only [Bool.not_eq_true', List.any_eq_false, Bool.and_eq_true, beq_iff_eq, not_and, State.record_setLine]
  rintro r hr - hl
  exact hm (hl.symm.trans ((s.mem_liveOnLine n r).mp hr).2)

/-- The live records that end leave nothing in the dispatch queue (R85). -/
theorem State.dispatchQ_unlink {s : State} (h : s.DispatchLawful) (n : LineNo) (k : Link) (f : Bool)
    (g : Entry → Entry) : ((s.unlink n k f g).line n).dispatchQ = [] := by
  have hd : (s.setLine n ((s.line n).unlinked k)).DispatchLawful := h.congr
    (fun m => by
      rw [State.line_setLine]
      split
      · next hm => rw [hm]; rfl
      · rfl)
    fun r => by rw [State.record_setLine]; exact Record.SameInQueue.refl _
  have hsweep := State.line_sweepLine hd .lineDown f n n
  rw [if_pos rfl] at hsweep
  rw [State.unlink, State.line_mapLineEntries]
  exact congrArg Line.dispatchQ hsweep

theorem State.entry_unlink (n : LineNo) (k : Link) (f : Bool) (g : Entry → Entry) (s : State) (d : DropNo) :
    (s.unlink n k f g).entry (stationAt n d) = g
      (((s.setLine n ((s.line n).unlinked k)).endRecords .lineDown f (s.liveOnLine n)).entry (stationAt n d)) := by
  rw [State.unlink, State.entry_mapLineEntries, if_pos (lineOf_stationAt n d)]

/-- A record on a line belongs to a station of that line, so the fences stay on it (R73). -/
theorem State.entry_unlink_ne {n : LineNo} {st : StationIdx} (hst : lineOf st ≠ n) (k : Link) (f : Bool)
    (g : Entry → Entry) (s : State) : (s.unlink n k f g).entry st = s.entry st := by
  have hfence : (((s.setLine n ((s.line n).unlinked k)).endRecords .lineDown f (s.liveOnLine n)).entry st).fence =
      (s.entry st).fence := by
    refine Vector.ext fun i hi => ?_
    refine (State.fence_endRecords .lineDown f (s.nodup_liveWhere fun x => x.line == n) _ st ⟨i, hi⟩).trans ?_
    rw [if_neg, State.entry_setLine]
    rintro ⟨-, r, hr, hs, -⟩
    rw [State.record_setLine] at hs
    exact hst (hs ▸ ((s.mem_liveOnLine n r).mp hr).2)
  rw [State.unlink, State.entry_mapLineEntries, if_neg hst, State.entry_endRecords, hfence, State.entry_setLine]

/-- No record of the line is in flight once its live records have ended (R162). -/
theorem State.drained_unlink (n : LineNo) (k : Link) (f : Bool) (g : Entry → Entry) (s : State) :
    (s.unlink n k f g).drained n = true := by
  rw [State.drained, State.records_toList]
  simp only [List.all_map, List.all_eq_true, List.mem_finRange, true_implies, Function.comp_apply, State.record_unlink]
  intro r
  split
  · simp [Record.ended, RecState.inFlight]
  · next hr =>
    rw [Bool.not_eq_true', Bool.and_eq_false_iff, beq_eq_false_iff_ne, ← Bool.not_eq_true, ← imp_iff_not_or]
    exact fun hf hl => hr ((s.mem_liveOnLine n r).mpr ⟨RecState.live_of_inFlight hf, hl⟩)

/-- What a record that ends brings to C and to the idle timer does not depend on its line's state or its fence. -/
theorem State.endRecords_signal_congr {s t : State} (hr : t.records = s.records) (hc : t.signalC = s.signalC)
    (hq : t.completionQ = s.completionQ) (hi : t.idleTimer = s.idleTimer) (hp : t.params = s.params)
    (ht : t.tick = s.tick) (o : ExchOutcome) (f f' : Bool) (rs : List RecordIdx) :
    (t.endRecords o f rs).signalC = (s.endRecords o f' rs).signalC ∧
      (t.endRecords o f rs).idleTimer = (s.endRecords o f' rs).idleTimer := by
  cases rs with
  | nil => exact ⟨hc, hi⟩
  | cons r rs =>
    obtain ⟨h1, h2⟩ := t.endRecords_signal o f (rs := r :: rs) (List.cons_ne_nil _ _)
    obtain ⟨h3, h4⟩ := s.endRecords_signal o f' (rs := r :: rs) (List.cons_ne_nil _ _)
    have hurgent : t.isUrgent = s.isUrgent := funext fun i => by rw [State.isUrgent, State.record_congr hr]; rfl
    rw [h1, h2, h3, h4, hc, hq, hp, hurgent, State.idleRestart, State.idleRestart, State.after, State.after, hp, ht]
    exact ⟨rfl, rfl⟩

/-- A link goes in the two ways of R113 and R114; both are the loss of the link and the end of any wait. -/
theorem State.settle_unlink {n : LineNo} {k : Link} (f : Bool) {g : Entry → Entry} (s : State) (hk : k ≠ .up)
    (hg : ∀ e, (g e).state ≠ .present) : (s.unlink n k f g).settle n = (s.unlink n k f g).endWait n := by
  have hline := s.line_unlink n k f g
  refine State.settle_of_unlinked ?_ ?_ (s.drained_unlink n k f g) fun d => ?_
  · rw [hline]
    exact hk
  · rw [hline]
    rfl
  · rw [s.entry_unlink]
    exact hg _

theorem Entry.lostByDown_eq (t : Tick) (e : Entry) : e.lostByDown t = { e with
    state := if e.state = .present then .lost else e.state
    changed := e.changed || e.state == .present
    probeTick := if e.state = .present then t else e.probeTick
    probeDue := e.probeDue || e.state == .present } := by
  by_cases h : e.state = .present
  · simp [Entry.lostByDown, Entry.dueAt, h]
  · have hb : (e.state == .present) = false := beq_eq_false_iff_ne.mpr h
    simp [Entry.lostByDown, h, hb]

theorem Entry.lostByDown_not_present (t : Tick) (e : Entry) : (e.lostByDown t).state ≠ .present := by
  rw [Entry.lostByDown_eq]
  dsimp only
  split
  · exact nofun
  · assumption

theorem Entry.byOff_not_present (t : Tick) (e : Entry) : (e.byOff t).state ≠ .present := by
  unfold Entry.byOff
  dsimp only
  split
  · exact nofun
  · next h => exact fun hp => h (.inl hp)

theorem State.linkDown_eq (n : LineNo) (s : State) :
    s.linkDown n = (s.unlink n .down true (Entry.lostByDown s.tick)).endWait n := by
  rw [← State.settle_unlink true s (by decide) (Entry.lostByDown_not_present s.tick)]
  have htick := ((s.setLine n ((s.line n).unlinked .down)).rest_endRecords .lineDown true (s.liveOnLine n)).tick
  exact congrArg (fun t => ((State.endRecords .lineDown true (s.liveOnLine n)
    (s.setLine n ((s.line n).unlinked .down))).mapLineEntries n (Entry.lostByDown t)).settle n) htick

theorem State.linkOff_eq (n : LineNo) (s : State) :
    s.linkOff n = (s.unlink n .off false (Entry.byOff s.tick)).endWait n := by
  rw [← State.settle_unlink false s (by decide) (Entry.byOff_not_present s.tick)]
  have htick := ((s.setLine n ((s.line n).unlinked .off)).rest_endRecords .lineDown false (s.liveOnLine n)).tick
  exact congrArg (fun t => ((State.endRecords .lineDown false (s.liveOnLine n)
    (s.setLine n ((s.line n).unlinked .off))).mapLineEntries n (Entry.byOff t)).settle n) htick

/-- Every loss of a link keeps all that has no part in it: the parameters, the ticks, the port, the pins. -/
theorem State.rest_unlink (n : LineNo) (k : Link) (f : Bool) (g : Entry → Entry) (s : State) :
    s.Rest (s.unlink n k f g) :=
  ((s.quiet_setLine _ _).rest.trans (State.rest_endRecords _ _ _ _)).trans (State.quiet_mapLineEntries _ _ _).rest

theorem State.faults_unlink (n : LineNo) (k : Link) (f : Bool) (g : Entry → Entry) (s : State) :
    (s.unlink n k f g).faults = s.faults := by
  rw [State.unlink, State.mapLineEntries, State.mapEntries_faults, State.endRecords_faults]
  rfl

/-- The Completion Unit after the loss of a link: the live records of the line enter in ascending index (R15, R113). -/
theorem State.completion_unlink (n : LineNo) (k : Link) (f : Bool) (g : Entry → Entry) (s : State) :
    (s.unlink n k f g).completionQ = s.completionQ ++ s.liveOnLine n ∧
    (s.unlink n k f g).signalC = (s.endRecords .lineDown true (s.liveOnLine n)).signalC ∧
    (s.unlink n k f g).idleTimer = (s.endRecords .lineDown true (s.liveOnLine n)).idleTimer := by
  have hq := State.quiet_mapLineEntries
    ((s.setLine n ((s.line n).unlinked k)).endRecords .lineDown f (s.liveOnLine n)) n g
  obtain ⟨hsignal, hidle⟩ := State.endRecords_signal_congr (t := s.setLine n ((s.line n).unlinked k)) (s := s)
    rfl rfl rfl rfl rfl rfl .lineDown f true (s.liveOnLine n)
  exact ⟨hq.completionQ.trans (State.endRecords_queue _ _ _ _), hq.signalC.trans hsignal, hq.idleTimer.trans hidle⟩

theorem Tx.cut_of_not_sending {x : Tx} (h : ∀ f k p, x ≠ .sending f k p) : x.cut = x := by
  cases x with
  | idle => rfl
  | sending f k p => exact absurd rfl (h f k p)
  | stopping f p => rfl

theorem State.link_unlink (n : LineNo) (k : Link) (f : Bool) (g : Entry → Entry) (s : State) :
    (((s.unlink n k f g).endWait n).line n).link = k := by
  rw [State.line_endWait, State.line_unlink]
  rfl

theorem State.entry_lost (n : LineNo) (k : Link) (f : Bool) (g : Entry → Entry) (s : State) (d : DropNo) :
    ((s.unlink n k f g).endWait n).entry (stationAt n d) =
      { (s.unlink n k f g).entry (stationAt n d) with
        ackMark := ((s.unlink n k f g).entry (stationAt n d)).ackMark && (s.line n).service != .draining } := by
  rw [State.entry_endWait, if_pos (lineOf_stationAt n d), State.line_unlink]
  rfl

/-- The fences of a station whose line goes DOWN (R73, R113). -/
theorem State.fence_linkDown (n : LineNo) (s : State) (d : DropNo) (q : SeqNo) :
    ((s.linkDown n).entry (stationAt n d)).fence[q.val] =
      if ∃ r ∈ s.liveOnLine n, (s.record r).station = stationAt n d ∧ (s.record r).seq = some q then
        some (s.after s.params.quarantineInterval) else (s.entry (stationAt n d)).fence[q.val] := by
  simp only [State.linkDown_eq, State.entry_lost, State.entry_unlink, Entry.lostByDown_fence]
  refine (State.fence_endRecords .lineDown true (s.nodup_liveWhere fun x => x.line == n) _ _ q).trans ?_
  simp only [true_and, State.record_setLine, State.entry_setLine]
  rfl

/-- An entry of a line that goes DOWN, but for its fences (R57). -/
theorem State.entry_linkDown (n : LineNo) (s : State) (d : DropNo) :
    (s.linkDown n).entry (stationAt n d) = { (s.entry (stationAt n d)).lostByDown s.tick with
      ackMark := (s.entry (stationAt n d)).ackMark && (s.line n).service != .draining
      fence := ((s.linkDown n).entry (stationAt n d)).fence } := by
  simp only [State.linkDown_eq, State.entry_lost, State.entry_unlink]
  rw [State.entry_endRecords, State.entry_setLine, Entry.lostByDown_eq, Entry.lostByDown_eq]

/-- An entry of a line that goes OFF (R58, R80). -/
theorem State.entry_linkOff (n : LineNo) (s : State) (d : DropNo) :
    (s.linkOff n).entry (stationAt n d) = { (s.entry (stationAt n d)).byOff s.tick with
      ackMark := ((s.entry (stationAt n d)).byOff s.tick).ackMark && (s.line n).service != .draining } := by
  rw [State.linkOff_eq, State.entry_lost, State.entry_unlink, State.entry_congr (State.endRecords_stations _ _ _),
    State.entry_setLine]

end Sys2Proof.Machine
end

section
/-!
The writes of LINE_ENABLE that take a line OFF (R114, R192), and all that a change of the link comes to: O42.
-/

namespace Sys2Proof.Machine

/-! ### The port has no part in the loss of a link -/

/-- The state with another controller port. -/
def State.onPort (p : Port) (s : State) : State := { s with port := p }

/-- CSn rises on the same state, whatever the port held. -/
theorem State.closePort_onPort (p : Port) (s : State) : (s.onPort p).closePort = s.closePort := rfl

theorem State.endOne_onPort (p : Port) (o : ExchOutcome) (f : Bool) (r : RecordIdx) (s : State) :
    (s.onPort p).endOne o f r = (s.endOne o f r).onPort p := by
  have hgive : ∀ x u, State.giveUp x f (State.onPort p u) = (State.giveUp x f u).onPort p := fun x u => by
    unfold State.giveUp
    split
    · split <;> rfl
    · rfl
  exact congrArg (fun u => u.setRecord r ((s.record r).ended o)) (hgive (s.record r) (s.leaveDispatch r))

theorem State.endAll_onPort (p : Port) (o : ExchOutcome) (f : Bool) (rs : List RecordIdx) (s : State) :
    (s.onPort p).endAll o f rs = (s.endAll o f rs).onPort p :=
  List.foldl_hom (State.onPort p) fun u r => State.endOne_onPort p o f r u

theorem State.endRecords_onPort (p : Port) (o : ExchOutcome) (f : Bool) (rs : List RecordIdx) (s : State) :
    (s.onPort p).endRecords o f rs = (s.endRecords o f rs).onPort p := by
  rw [State.endRecords_eq, State.endAll_onPort, State.endRecords_eq]
  cases rs <;> rfl

theorem State.endWait_onPort (p : Port) (n : LineNo) (s : State) : (s.onPort p).endWait n = (s.endWait n).onPort p := by
  have hservice : ((s.onPort p).line n).service = (s.line n).service := rfl
  unfold State.endWait
  rw [hservice]
  cases (s.line n).service <;> rfl

theorem State.linkOff_onPort (p : Port) (n : LineNo) (s : State) : (s.onPort p).linkOff n = (s.linkOff n).onPort p := by
  have hend := State.endRecords_onPort p .lineDown false (s.liveOnLine n) (s.setLine n ((s.line n).unlinked .off))
  have hunlink : (s.onPort p).unlink n .off false (Entry.byOff s.tick) =
      (s.unlink n .off false (Entry.byOff s.tick)).onPort p :=
    congrArg (fun u => u.mapLineEntries n (Entry.byOff s.tick)) hend
  rw [State.linkOff_eq, State.linkOff_eq, ← State.endWait_onPort, ← hunlink]
  rfl

/-! ### LINE_ENABLE set OFF (R114, R192) -/

theorem State.writeParameter_lineEnable_off {s : State} {n : LineNo} (hl : (s.line n).link ≠ .off) :
    s.writeParameter 2 n.val 0 =
      ({ s with params := { s.params with lineEnable := s.params.lineEnable.set n.val false } } : State).linkOff n := by
  have hcheck : s.checkedParam 2 n.val 0 = some .lineEnable := if_pos ⟨n.isLt, Nat.le_refl _, Nat.zero_le _, rfl⟩
  rw [State.writeParameter, hcheck]
  show State.afterWrite .lineEnable n.val 0 _ = _
  rw [State.afterWrite, dif_pos n.isLt, Params.write, setAt_eq_set]
  exact if_neg hl

/-- LINE_ENABLE_OFF on a line that is DOWN or UP. -/
theorem exec_lineEnableOff {s : State} {n : LineNo} (hl : (s.line n).link ≠ .off)
    (hs : s.Serving (setBytes 2#8 (byteOf n.val) 0#16)) :
    exec (.lineEnableOff n) s = .next
      ((({ s with params := { s.params with lineEnable := s.params.lineEnable.set n.val false } } : State).linkOff
        n).closePort) := by
  have hrise : exec (.lineEnableOff n) s = .next (s.setRise 2#8 (byteOf n.val) 0#16) := rfl
  have hwrite : (s.onPort (s.port.havingAtLeast (setBytes 2#8 (byteOf n.val) 0#16))).writeParameter 2 n.val 0 =
      (State.onPort (s.port.havingAtLeast (setBytes 2#8 (byteOf n.val) 0#16))
        { s with params := { s.params with lineEnable := s.params.lineEnable.set n.val false } }).linkOff n :=
    State.writeParameter_lineEnable_off hl
  have hnumber : (2#8).toNat = 2 := rfl
  have hvalue : (0#16).toNat = 0 := rfl
  rw [hrise, State.setRise, State.riseThrough_eq _ hs, byteOf_line, hnumber, hvalue, ← State.onPort, hwrite,
    State.linkOff_onPort, State.closePort_onPort]

/-! ### All that the loss of a link comes to (R57, R58, R113, R114, R168) -/

/-- The line that has lost its link. -/
theorem State.line_lost (n : LineNo) (k : Link) (f : Bool) (g : Entry → Entry) (s : State) :
    ((s.unlink n k f g).endWait n).line n = { s.line n with
      link := k, markRun := 0, spaceRun := 0, rx := .hunting, phase := .none, quiet := 0
      tx := (s.line n).tx.cut, dispatchQ := ((s.unlink n k f g).line n).dispatchQ, controlQ := []
      service := if (s.line n).waits then .quiesced else (s.line n).service
      quiesceDeadline := if (s.line n).waits then none else (s.line n).quiesceDeadline
      quiesceOutcome := if (s.line n).waits then some .allAcked else (s.line n).quiesceOutcome
      quiesceFinished := (s.line n).waits || (s.line n).quiesceFinished } := by
  rw [State.line_endWait, State.line_unlink]
  rfl

/-- Settles O42: both losses of a link are the end of the line's records, the entries and the end of any wait. -/
theorem linkChanges : Obligations.LinkChanges := by
  intro s n
  refine ⟨fun ho hl hm u hu => ?_, fun ho hl hm => exec_linkDown ho hl hm, fun hl hs => exec_lineEnableOff hl hs,
    fun t rs waits mark ht hrs hw hmark => ?_⟩
  · rw [exec_linkUp ho hl hm, hu, ← Entry.dueIfProbed_eq]
    rfl
  have hlost : ∃ k f g, t = (s.unlink n k f g).endWait n := by
    rcases ht with rfl | rfl
    · exact ⟨_, _, _, s.linkDown_eq n⟩
    · exact ⟨_, _, _, s.linkOff_eq n⟩
  obtain ⟨k, f, g, heq⟩ := hlost
  have hrs' : rs = s.liveOnLine n := hrs
  have hw' : waits = (s.line n).waits := hw
  have hrecord : ∀ r, t.record r = if r ∈ rs then (s.record r).ended .lineDown else s.record r := fun r => by
    rw [heq, State.record_congr (State.endWait_records n _), State.record_unlink, hrs']
  have hline : t.line n = _ := (congrArg (fun u => u.line n) heq).trans (s.line_lost n k f g)
  have hquiet := State.quiet_endWait n (s.unlink n k f g)
  obtain ⟨hqueue, hsignal, hidle⟩ := s.completion_unlink n k f g
  refine ⟨fun r hr => ?_, fun r hr => ?_, ?_, ?_, ?_, ?_, fun hd => ?_, fun x h p hx => ?_, fun hx => ?_, fun m hm => ?_,
    fun st hst => ?_, ?_, fun htd => ⟨?_, fun d e he => ⟨?_, fun q => ?_⟩⟩, fun hto => ⟨?_, fun d e he => ⟨fun hst => ?_,
    fun hst => ?_⟩⟩⟩
  · rw [hrecord, if_pos hr]
    rfl
  · rw [hrecord, if_neg hr]
  · rw [heq, hquiet.completionQ, hqueue, hrs']
  · rw [heq, hquiet.signalC, hsignal, hrs']
  · rw [heq, hquiet.idleTimer, hidle, hrs']
  · rw [hline, hw']
  · rw [hline]
    exact State.dispatchQ_unlink hd n k f g
  · rw [hline, hx]
    rfl
  · rw [hline]
    exact Tx.cut_of_not_sending hx
  · rw [heq, State.line_endWait_ne hm, State.line_unlink_ne hm]
  · rw [heq, State.entry_endWait, if_neg hst, State.entry_unlink_ne hst]
  · rw [heq]
    exact State.eq_of_rest ((s.rest_unlink n k f g).trans hquiet.rest)
      ((State.endWait_faults n _).trans (s.faults_unlink n k f g))
  · rw [htd, State.linkDown_eq, State.link_unlink]
  · rw [htd, State.entry_linkDown, Entry.lostByDown_eq, hmark, he]
  · rw [htd, State.fence_linkDown, hrs', he]
    rfl
  · rw [hto, State.linkOff_eq, State.link_unlink]
  · rw [hto, State.entry_linkOff, Entry.byOff, hmark, ← he, if_pos hst]
    rfl
  · have hnot : ¬ (e.state = .present ∨ e.state = .lost) := by
      rcases hst with hst | hst <;> rw [hst] <;> decide
    rw [hto, State.entry_linkOff, Entry.byOff, hmark, ← he, if_neg hnot]

end Sys2Proof.Machine
end

section
/-!
Replies that reach the record that holds their sequence (R72, R123 to R125, R127) and HOLDOFF (R120 to R122, R129,
R130).
-/

namespace Sys2Proof.Machine

/-! ### The state in which a frame is delivered (R62, R76) -/

@[simp] theorem State.charTaken_tick (n : LineNo) (mark : Bool) (c : RxCond) (s : State) :
    (s.charTaken n mark c).tick = s.tick := by
  unfold State.charTaken
  split <;> rfl

@[simp] theorem State.charTaken_params (n : LineNo) (mark : Bool) (c : RxCond) (s : State) :
    (s.charTaken n mark c).params = s.params := by
  unfold State.charTaken
  split <;> rfl

@[simp] theorem State.record_signOfLife (st : StationIdx) (s : State) (r : RecordIdx) :
    (s.signOfLife st).record r = s.record r := rfl

@[simp] theorem State.signOfLife_tick (st : StationIdx) (s : State) : (s.signOfLife st).tick = s.tick := rfl

@[simp] theorem State.signOfLife_params (st : StationIdx) (s : State) : (s.signOfLife st).params = s.params := rfl

/-- A good REPLY is looked up once its last character is taken. -/
theorem exec_reply {s : State} {n : LineNo} {f : UpFields} (hlen : f.payload.length ≤ 32)
    (hr : s.receivable n (f.frame .reply).body = true) :
    exec (.reply n f) s = .next ((s.charTaken n true .hunting).matchFrame
      (State.deliverReply n (f.frame .reply)) n (f.frame .reply)) :=
  congrArg Host.Outcome.next (State.receiveFrame_eq _ hlen hr)

/-- A good HOLDOFF is looked up once its last character is taken. -/
theorem exec_holdoff {s : State} {n : LineNo} {f : UpFields} (hlen : f.payload.length ≤ 32)
    (hr : s.receivable n (f.frame .holdoff).body = true) :
    exec (.holdoff n f) s = .next ((s.charTaken n true .hunting).matchFrame
      (State.deliverHoldoff n (f.frame .holdoff)) n (f.frame .holdoff)) :=
  congrArg Host.Outcome.next (State.receiveFrame_eq _ hlen hr)

/-- The lookup of a received frame finds the record that held its sequence before (R76). -/
theorem State.matchFrame_charTaken_held {s : State} (deliver : RecordIdx → State → State) {n : LineNo} {f : Frame}
    {r : RecordIdx} (hst : (s.entry (stationAt n f.drop)).state = .present)
    (hh : s.holder (stationAt n f.drop) f.seq = some r) :
    (s.charTaken n true .hunting).matchFrame deliver n f =
      (deliver r ((s.charTaken n true .hunting).signOfLife (stationAt n f.drop))).settle n :=
  State.matchFrame_held deliver (by rwa [State.entry_charTaken])
    (by rwa [State.holder_congr (s.charTaken_records n true .hunting)])

/-! ### A frame that brings its record to PARTIAL or DEFERRED (R13, R85, R128, R167) -/

/-- The record that takes a frame becomes `y`: one that was QUEUED leaves its dispatch queue and joins those that the
drain waits for. -/
def State.frameTaken (n : LineNo) (r : RecordIdx) (y : Record) (s : State) : State :=
  ((s.withdraw r).setRecord r y).joined (s.record r).state n

theorem State.frameTaken_of_not_queued {s : State} (n : LineNo) {r : RecordIdx} (y : Record)
    (h : (s.record r).state ≠ .queued) : s.frameTaken n r y = s.setRecord r y := by
  rw [State.frameTaken, State.withdraw, if_neg h, State.joined, if_neg h]

theorem State.frameTaken_of_queued {s : State} (n : LineNo) {r : RecordIdx} (y : Record)
    (h : (s.record r).state = .queued) :
    s.frameTaken n r y = ((s.leaveDispatch r).setRecord r y).returnToDraining n := by
  rw [State.frameTaken, State.withdraw, if_pos h, State.joined, if_pos h]

/-- An accepted segment without LAST (R124). -/
theorem State.acceptPart_eq (n : LineNo) (f : Frame) (r : RecordIdx) (s : State) :
    s.acceptPart n f r = s.frameTaken n r { s.record r with
      state := .partly, reply := (s.record r).reply ++ f.payload, segments := (s.record r).segments + 1
      deadline := some { kind := .segment, expiry := s.tick + BitVec.ofNat 32 s.params.segmentInterval } } := by
  have hrest := (s.quiet_withdraw r).rest
  rw [State.acceptPart, State.after, hrest.tick, hrest.params]
  rfl

/-- A holdoff within HOLDOFF_LIMIT (R120, R130). -/
theorem State.defer_eq (n : LineNo) (f : Frame) (r : RecordIdx) (s : State) :
    s.defer n f r = s.frameTaken n r { s.record r with
      state := .deferred, holdoffs := (s.record r).holdoffs + 1
      deadline := some
        { kind := .holdoff
          expiry := s.tick + BitVec.ofNat 32 (max (10 * f.kindByte.toNat) s.params.holdoffMinimum) } } := by
  have hrest := (s.quiet_withdraw r).rest
  rw [State.defer, State.after, State.holdoffLength, hrest.tick, hrest.params]
  rfl

/-! ### A REPLY delivered (R123 to R127) -/

/-- The next segment of a record that is not DEFERRED goes to the checks of R124. -/
theorem State.deliverReply_next {s : State} (n : LineNo) {f : Frame} {r : RecordIdx}
    (hd : (s.record r).state ≠ .deferred) (hseg : f.segment.val = (s.record r).segments) :
    s.deliverReply n f r = s.nextSegment n f r := by
  rw [State.deliverReply, if_neg hd, if_neg hseg.not_lt, if_pos hseg]

/-- Any segment in DEFERRED, and one ahead of the next, is in error (R123, R126). -/
theorem State.deliverReply_out_of_order {s : State} (n : LineNo) {f : Frame} {r : RecordIdx}
    (h : (s.record r).state = .deferred ∨ (s.record r).segments < f.segment.val) :
    s.deliverReply n f r = s.failByFrame .segmentError .segmentError n f r := by
  by_cases hd : (s.record r).state = .deferred
  · rw [State.deliverReply, if_pos hd]
  · have hahead := h.resolve_left hd
    rw [State.deliverReply, if_neg hd, if_neg hahead.not_gt, if_neg hahead.ne']

/-- A fourth segment without LAST announces a fifth one (R124). -/
theorem State.nextSegment_fifth {f : Frame} (n : LineNo) (r : RecordIdx) (s : State)
    (h : f.segment = 3 ∧ f.last = false) :
    s.nextSegment n f r = s.failByFrame .segmentError .segmentError n f r := if_pos h

/-- A segment that overruns the 64 bytes of a reply (R124). -/
theorem State.nextSegment_overrun {s : State} (n : LineNo) {f : Frame} {r : RecordIdx}
    (h : ¬ (f.segment = 3 ∧ f.last = false)) (hover : 64 < (s.record r).reply.length + f.payload.length) :
    s.nextSegment n f r = s.failByFrame .replyOverrun .replyOverrun n f r := by
  rw [State.nextSegment, if_neg h, if_pos (show Config.maxReply < _ from hover)]

/-- A segment that fits and carries LAST is accepted, whichever of the four it is (R125). -/
theorem State.nextSegment_last {s : State} (n : LineNo) {f : Frame} {r : RecordIdx} (hlast : f.last = true)
    (hfits : (s.record r).reply.length + f.payload.length ≤ 64) : s.nextSegment n f r = s.acceptLast f r := by
  rw [State.nextSegment, if_neg (fun h => by rw [hlast] at h; cases h.2),
    if_neg (show ¬ Config.maxReply < _ from Nat.not_lt.mpr hfits), if_pos hlast]

/-- A segment that fits, carries no LAST and is not the fourth one is accepted (R124). -/
theorem State.nextSegment_part {s : State} (n : LineNo) {f : Frame} {r : RecordIdx} (hlast : f.last = false)
    (h : ¬ (f.segment = 3 ∧ f.last = false)) (hfits : (s.record r).reply.length + f.payload.length ≤ 64) :
    s.nextSegment n f r = s.acceptPart n f r := by
  rw [State.nextSegment, if_neg h, if_neg (show ¬ Config.maxReply < _ from Nat.not_lt.mpr hfits),
    if_neg (ne_true_of_eq_false hlast)]

/-- Settles O46: the checks of R123 and R124 in their order, then the accepted segment by LAST and by whether the record
was QUEUED. -/
theorem replyDelivered : Obligations.ReplyDelivered := by
  rintro s n f st r x v rfl hlen hrec hv hst hh hx
  have hexec : exec (.reply n f) s = .next ((v.deliverReply n (f.frame .reply) r).settle n) := by
    rw [exec_reply hlen hrec, State.matchFrame_charTaken_held _ hst hh, hv]
    rfl
  have hvx : v.record r = x := by rw [hv, hx, State.record_signOfLife, State.record_charTaken]
  have htick : v.tick = s.tick := by rw [hv, State.signOfLife_tick, State.charTaken_tick]
  have hparams : v.params = s.params := by rw [hv, State.signOfLife_params, State.charTaken_params]
  rw [hexec, ← htick, ← hparams]
  subst hvx
  refine ⟨fun hd hseg hfour hfits => ?_, fun herr => ?_, fun hd hseg hfour hover => ?_⟩
  · rw [State.deliverReply_next n hd hseg]
    refine ⟨fun hlast => ?_, fun hlast hq => ?_, fun hlast hq => ?_⟩
    · rw [State.nextSegment_last n hlast hfits]
      rfl
    · rw [State.nextSegment_part n hlast hfour hfits, State.acceptPart_eq, State.frameTaken_of_not_queued n _ hq]
      rfl
    · rw [State.nextSegment_part n hlast hfour hfits, State.acceptPart_eq, State.frameTaken_of_queued n _ hq]
      rfl
  · have hfail : v.deliverReply n (f.frame .reply) r =
        v.failByFrame .segmentError .segmentError n (f.frame .reply) r := by
      rcases or_assoc.mpr herr with hord | ⟨hseg, hfifth⟩
      · exact State.deliverReply_out_of_order n hord
      · by_cases hd : (v.record r).state = .deferred
        · exact State.deliverReply_out_of_order n (.inl hd)
        · exact (State.deliverReply_next n hd hseg).trans (State.nextSegment_fifth n r v hfifth)
    rw [hfail]
    rfl
  · rw [State.deliverReply_next n hd hseg, State.nextSegment_overrun n hfour hover]
    rfl

/-! ### HOLDOFF (R129, R130) -/

/-- The report of a HOLDOFF carries its sequence (R174). -/
theorem frameReport_holdoff (k : ErrorKind) (n : LineNo) (f : UpFields) :
    frameReport k n (f.frame .holdoff) =
      { kind := k, line := some n, drop := some f.drop, seq := some f.seq
        header := some (f.frame .holdoff).header, opcode := none } := rfl

theorem State.deliverHoldoff_partial {s : State} (n : LineNo) (f : Frame) {r : RecordIdx}
    (h : (s.record r).state = .partly) :
    s.deliverHoldoff n f r = s.failByFrame .segmentError .segmentError n f r := if_pos h

theorem State.deliverHoldoff_deferred {s : State} (n : LineNo) (f : Frame) {r : RecordIdx}
    (h : (s.record r).state = .deferred) : s.deliverHoldoff n f r = s.report (frameReport .lateReply n f) := by
  rw [State.deliverHoldoff, if_neg (by rw [h]; decide), if_pos h]

theorem State.deliverHoldoff_counted {s : State} (n : LineNo) (f : Frame) {r : RecordIdx}
    (hd : (s.record r).state ≠ .deferred) (hp : (s.record r).state ≠ .partly) :
    s.deliverHoldoff n f r = s.countHoldoff n f r := by
  rw [State.deliverHoldoff, if_neg hp, if_neg hd]

/-- Settles O47: the lookup of R76, then the holdoff by the state of its record and its count. -/
theorem holdoff : Obligations.Holdoff := by
  rintro s n f st u v rep rfl hlen hrec hu hv hrep
  have hexec := exec_holdoff hlen hrec
  have hent : u.entry (stationAt n f.drop) = s.entry (stationAt n f.drop) := by rw [hu, State.entry_charTaken]
  have hreport : ∀ k, rep k = frameReport k n (f.frame .holdoff) := fun k =>
    (hrep k).trans (frameReport_holdoff k n f).symm
  simp only [hreport]
  refine ⟨fun hst => ?_, fun hst => ⟨fun hnone => ?_, fun r x hh hx => ?_⟩⟩
  · rw [hexec, ← hu, State.matchFrame_stray _ (by rwa [← hent] at hst)]
  · have hholder : u.holder (stationAt n f.drop) f.seq = none := by
      rwa [hu, State.holder_congr (s.charTaken_records n true .hunting)]
    have hunheld : u.matchFrame (State.deliverHoldoff n (f.frame .holdoff)) n (f.frame .holdoff) =
        v.report (frameReport (if s.fenced (stationAt n f.drop) f.seq then .lateReply else .unexpectedReply) n
          (f.frame .holdoff)) := by
      rw [hv, State.fenced, ← hent]
      exact State.matchFrame_unheld (f := f.frame .holdoff) _ (by rwa [← hent] at hst) hholder
    rw [hexec, ← hu, hunheld]
    exact ⟨fun hf => by rw [if_pos hf], fun hf => by rw [if_neg (by simp [hf])]⟩
  have hdeliver : exec (.holdoff n f) s = .next ((v.deliverHoldoff n (f.frame .holdoff) r).settle n) := by
    rw [hexec, State.matchFrame_charTaken_held _ hst hh, hv, hu]
    rfl
  have hvx : v.record r = x := by rw [hv, hu, hx, State.record_signOfLife, State.record_charTaken]
  have htick : v.tick = s.tick := by rw [hv, hu, State.signOfLife_tick, State.charTaken_tick]
  have hparams : v.params = s.params := by rw [hv, hu, State.signOfLife_params, State.charTaken_params]
  rw [hdeliver, ← htick, ← hparams]
  subst hvx
  refine ⟨fun hd => ?_, fun hp => ?_, fun hd hp => ?_⟩
  · rw [State.deliverHoldoff_deferred n _ hd]
  · rw [State.deliverHoldoff_partial n _ hp]
    rfl
  rw [State.deliverHoldoff_counted n _ hd hp, State.countHoldoff]
  refine ⟨fun hlimit => by rw [if_neg (Nat.not_lt.mpr hlimit)], fun hlimit y hy => ?_⟩
  have hdefer : v.defer n (f.frame .holdoff) r = v.frameTaken n r y := (State.defer_eq n _ r v).trans (by rw [hy]; rfl)
  rw [if_pos hlimit, hdefer]
  exact ⟨fun hq => by rw [State.frameTaken_of_not_queued n y hq],
    fun hq => by rw [State.frameTaken_of_queued n y hq]⟩

end Sys2Proof.Machine
end

section
/-!
Every step keeps the bounds of the control queues, of the error account and of the attention slots (R86, R155, R172).
-/

namespace Sys2Proof.Machine

/-- What the manual bounds in every state: the control queues (R86), the error account (R172) and the attention
slots (R155). -/
structure State.Bounded (s : State) : Prop where
  control : s.ControlBounded
  faults : s.faults.Bounded
  slots : s.SlotsOrdered

/-- One occurrence keeps the counters and the further count at 255 or below: they saturate there (R173). -/
theorem FaultAccount.Bounded.take {a : FaultAccount} (h : a.Bounded) (c : ErrorClass) (o : Occurrence) :
    (a.take c o).Bounded := by
  refine ⟨fun k => ?_, ?_⟩
  · rw [FaultAccount.take_counter]
    split
    · exact Nat.min_le_left _ _
    · exact h.1 k
  · unfold FaultAccount.take
    cases a.capture with
    | none => exact h.2
    | some _ => exact Nat.min_le_left _ _

/-! ### What an entry may become (R57, R58, R60, R66, R68, R158) -/

theorem Entry.slotsOrdered_of_no_pending {e : Entry} (h : e.pendingCause = none) : e.slotsOrdered := by
  simp [Entry.slotsOrdered, h]

theorem Entry.slotsOrdered_of_presented {e : Entry} (h : e.presented.isSome = true) : e.slotsOrdered := fun _ => h

theorem Entry.slotsOrdered_dueIfProbed (t : Tick) {e : Entry} (h : e.slotsOrdered) :
    (e.dueIfProbed t).slotsOrdered := by
  unfold Entry.dueIfProbed
  split <;> exact h

theorem Entry.slotsOrdered_lostByDown (t : Tick) {e : Entry} (h : e.slotsOrdered) : (e.lostByDown t).slotsOrdered := by
  unfold Entry.lostByDown
  split <;> exact h

theorem Entry.slotsOrdered_byOff (t : Tick) {e : Entry} (h : e.slotsOrdered) : (e.byOff t).slotsOrdered := by
  unfold Entry.byOff
  dsimp only
  split <;> exact h

theorem Entry.slotsOrdered_reset (t : Tick) {e : Entry} (h : e.slotsOrdered) : (e.reset t).slotsOrdered := by
  unfold Entry.reset
  dsimp only
  split
  · exact h
  · exact Entry.slotsOrdered_of_no_pending rfl

theorem slotsOrdered_clearReported (b : Byte) (d : DropNo) {e : Entry} (h : e.slotsOrdered) :
    (clearReported b d e).slotsOrdered := by
  unfold clearReported
  split <;> exact h

namespace State.Bounded

variable {s t : State}

/-! ### The single updates -/

/-- Nothing else of the state bears on the bounds. -/
theorem congr (h : s.Bounded) (hl : t.lines = s.lines) (hs : t.stations = s.stations) (hf : t.faults = s.faults) :
    t.Bounded :=
  ⟨fun n => by rw [State.line_congr hl]; exact h.control n, hf ▸ h.faults,
    fun st => by rw [State.entry_congr hs]; exact h.slots st⟩

theorem withPort (h : s.Bounded) (p : Port) : State.Bounded { s with port := p } := h.congr rfl rfl rfl

theorem setRecord (h : s.Bounded) (r : RecordIdx) (x : Record) : (s.setRecord r x).Bounded := h.congr rfl rfl rfl

theorem setLine (h : s.Bounded) (n : LineNo) {l : Line}
    (hl : (s.line n).controlQ.length ≤ Config.controlCapacity → l.controlQ.length ≤ Config.controlCapacity) :
    (s.setLine n l).Bounded := by
  refine ⟨fun m => ?_, h.faults, h.slots⟩
  rw [State.line_setLine]
  split
  · exact hl (h.control n)
  · exact h.control m

theorem setEntry (h : s.Bounded) (st : StationIdx) {e : Entry}
    (he : (s.entry st).slotsOrdered → e.slotsOrdered) : (s.setEntry st e).Bounded := by
  refine ⟨h.control, h.faults, fun i => ?_⟩
  rw [State.entry_setEntry]
  split
  · exact he (h.slots st)
  · exact h.slots i

theorem mapEntries (h : s.Bounded) {f : StationIdx → Entry → Entry}
    (hf : ∀ st (e : Entry), e.slotsOrdered → (f st e).slotsOrdered) : (s.mapEntries f).Bounded := by
  refine ⟨fun n => ?_, ?_, fun st => ?_⟩
  · rw [State.line_mapEntries]
    exact h.control n
  · rw [State.mapEntries_faults]
    exact h.faults
  · rw [State.entry_mapEntries]
    exact hf st _ (h.slots st)

theorem mapLineEntries (h : s.Bounded) (n : LineNo) {f : Entry → Entry}
    (hf : ∀ e : Entry, e.slotsOrdered → (f e).slotsOrdered) : (s.mapLineEntries n f).Bounded :=
  h.mapEntries fun st e he => by
    split
    · exact hf e he
    · exact he

theorem mapLines (h : s.Bounded) {f : LineNo → Line → Line}
    (hf : ∀ n (l : Line), l.controlQ.length ≤ Config.controlCapacity →
      (f n l).controlQ.length ≤ Config.controlCapacity) : (s.mapLines f).Bounded := by
  refine ⟨fun n => ?_, ?_, fun st => ?_⟩
  · rw [State.line_mapLines]
    exact hf n _ (h.control n)
  · rw [State.mapLines_faults]
    exact h.faults
  · rw [State.entry_mapLines]
    exact h.slots st

theorem report (h : s.Bounded) (o : Occurrence) : (s.report o).Bounded := ⟨h.control, h.faults.take _ o, h.slots⟩

theorem commandError (h : s.Bounded) : s.commandError.Bounded := h.report _

theorem foldl {α : Type} {f : State → α → State} (hf : ∀ (s : State) (a : α), s.Bounded → (f s a).Bounded)
    (as : List α) (h : s.Bounded) : (as.foldl f s).Bounded := by
  induction as generalizing s with
  | nil => exact h
  | cons a as ih => exact ih (hf s a h)

theorem ite (h : s.Bounded) (c : Prop) [Decidable c] (k : c → t.Bounded) : (if c then t else s).Bounded := by
  split
  · exact k ‹_›
  · exact h

/-! ### Control frames, the arbiter and the line service (R63, R86, R87, R90, R162 to R167) -/

/-- A frame joins a control queue only where it finds room (R86, R87). -/
theorem offer (h : s.Bounded) (n : LineNo) (c : ControlFrame) : (s.offer n c).Bounded := by
  rcases State.offer_cases n c s with ⟨-, hroom, heq⟩ | ⟨-, -, heq⟩ | ⟨-, heq⟩ <;> rw [heq]
  · exact h.setLine n fun _ => by rw [List.length_append, List.length_singleton]; exact hroom
  · exact h.report _
  · exact h

theorem offerAll (h : s.Bounded) (n : LineNo) (cs : List ControlFrame) : (s.offerAll n cs).Bounded :=
  foldl (fun _ c hs => hs.offer n c) cs h

theorem leaveDispatch (h : s.Bounded) (r : RecordIdx) : (s.leaveDispatch r).Bounded := h.setLine _ fun hl => hl

theorem startFrame (h : s.Bounded) (n : LineNo) (f : Frame) (k : Option Handle) : (s.startFrame n f k).Bounded :=
  h.setLine n fun hl => hl

theorem dispatchWith (h : s.Bounded) (n : LineNo) (k : Handle) (q : SeqNo) : (s.dispatchWith n k q).Bounded :=
  ((h.leaveDispatch _).setRecord _ _).startFrame n _ _

theorem dispatch (h : s.Bounded) (n : LineNo) (k : Handle) : (s.dispatch n k).Bounded := by
  unfold State.dispatch
  split
  · exact h.dispatchWith n k _
  · split
    · refine State.Bounded.dispatchWith (h.setEntry _ ?_) n k _
      exact fun he => he
    · exact h

theorem choose (h : s.Bounded) (n : LineNo) : (s.choose n).Bounded := by
  rcases State.choose_cases n s with heq | ⟨-, -, -, ⟨c, rest, hq, heq⟩ | ⟨k, -, -, -, heq⟩⟩ <;> rw [heq]
  · exact h
  · refine (h.setLine n fun hl => ?_).startFrame n _ _
    rw [hq] at hl
    exact Nat.le_of_succ_le hl
  · exact h.dispatch n k

theorem testAcks (h : s.Bounded) (n : LineNo) : (s.testAcks n).Bounded := h.ite _ fun _ => h.setLine n fun hl => hl

theorem enterAwaiting (h : s.Bounded) (n : LineNo) : (s.enterAwaiting n).Bounded := by
  unfold State.enterAwaiting
  dsimp only
  have hmarks := h.mapLineEntries n (f := fun e => { e with ackMark := false }) fun _ he => he
  refine State.Bounded.testAcks (State.Bounded.offerAll (hmarks.setLine n ?_) n _) n
  exact fun hl => hl

theorem serviceTests (h : s.Bounded) (n : LineNo) : (s.serviceTests n).Bounded :=
  State.Bounded.testAcks (h.ite _ fun _ => h.enterAwaiting n) n

theorem settle (h : s.Bounded) (n : LineNo) : (s.settle n).Bounded := (h.serviceTests n).choose n

theorem probeOne (h : s.Bounded) (n : LineNo) (d : DropNo) : (s.probeOne n d).Bounded :=
  h.ite _ fun _ => (h.offer n _).setEntry _ fun _ => h.slots (stationAt n d)

theorem probeSweep (h : s.Bounded) (n : LineNo) : (s.probeSweep n).Bounded :=
  foldl (fun _ d hs => hs.probeOne n d) _ h

/-! ### Records that end, and their queues (R10, R14, R15) -/

theorem endOne (h : s.Bounded) (o : ExchOutcome) (f : Bool) (r : RecordIdx) : (s.endOne o f r).Bounded := by
  refine State.Bounded.setRecord ?_ r _
  unfold State.giveUp
  split
  · split
    · exact (h.leaveDispatch r).setEntry _ fun he => he
    · exact h.leaveDispatch r
  · exact h.leaveDispatch r

theorem endRecords (h : s.Bounded) (o : ExchOutcome) (f : Bool) (rs : List RecordIdx) : (s.endRecords o f rs).Bounded :=
  (foldl (fun _ r hs => hs.endOne o f r) rs h).congr (State.enterCompletion_lines _ _) (State.enterCompletion_stations _ _)
    (State.enterCompletion_faults _ _)

theorem queueAtTail (h : s.Bounded) (r : RecordIdx) : (s.queueAtTail r).Bounded :=
  (h.setRecord r _).setLine _ fun hl => hl

theorem queueAtHead (h : s.Bounded) (r : RecordIdx) : (s.queueAtHead r).Bounded :=
  (h.setRecord r _).setLine _ fun hl => hl

theorem signOfLife (h : s.Bounded) (st : StationIdx) : (s.signOfLife st).Bounded := h.setEntry st fun he => he

theorem loseStation (h : s.Bounded) (st : StationIdx) : (s.loseStation st).Bounded := by
  unfold State.loseStation
  dsimp only
  refine State.Bounded.settle (State.Bounded.probeSweep ?_ _) _
  exact (h.endRecords _ _ _).setEntry st fun he => he

/-! ### Good frames (R47, R121 to R130, R156, R164) -/

theorem withdraw (h : s.Bounded) (r : RecordIdx) : (s.withdraw r).Bounded := h.ite _ fun _ => h.leaveDispatch r

theorem joined (h : s.Bounded) (was : RecState) (n : LineNo) : (s.joined was n).Bounded :=
  h.ite _ fun _ => h.ite _ fun _ => h.setLine n fun hl => hl

theorem failByFrame (h : s.Bounded) (o : ExchOutcome) (k : ErrorKind) (n : LineNo) (f : Frame) (r : RecordIdx) :
    (s.failByFrame o k n f r).Bounded := (h.endRecords _ _ _).report _

theorem nextSegment (h : s.Bounded) (n : LineNo) (f : Frame) (r : RecordIdx) : (s.nextSegment n f r).Bounded := by
  unfold State.nextSegment
  split
  · exact h.failByFrame _ _ n f r
  · split
    · exact h.failByFrame _ _ n f r
    · split
      · exact (h.setRecord r _).endRecords _ _ _
      · exact ((h.withdraw r).setRecord r _).joined _ n

theorem deliverReply (h : s.Bounded) (n : LineNo) (f : Frame) (r : RecordIdx) : (s.deliverReply n f r).Bounded := by
  unfold State.deliverReply
  split
  · exact h.failByFrame _ _ n f r
  · split
    · exact h.report _
    · split
      · exact h.nextSegment n f r
      · exact h.failByFrame _ _ n f r

theorem deliverHoldoff (h : s.Bounded) (n : LineNo) (f : Frame) (r : RecordIdx) : (s.deliverHoldoff n f r).Bounded := by
  unfold State.deliverHoldoff
  split
  · exact h.failByFrame _ _ n f r
  · split
    · exact h.report _
    · unfold State.countHoldoff
      split
      · exact ((h.withdraw r).setRecord r _).joined _ n
      · exact h.endRecords _ _ _

theorem matchFrame (h : s.Bounded) {deliver : RecordIdx → State → State} (n : LineNo) (f : Frame)
    (hd : ∀ (r : RecordIdx) (u : State), u.Bounded → (deliver r u).Bounded) : (s.matchFrame deliver n f).Bounded := by
  unfold State.matchFrame
  dsimp only
  split
  · exact h.report _
  · split
    · exact (hd _ _ (h.signOfLife _)).settle n
    · split <;> exact (h.signOfLife _).report _

theorem takeReply (h : s.Bounded) (n : LineNo) (f : UpFields) : (takeReply n f s).Bounded :=
  h.matchFrame n _ fun r _ hu => hu.deliverReply n _ r

theorem takeHoldoff (h : s.Bounded) (n : LineNo) (f : UpFields) : (takeHoldoff n f s).Bounded :=
  h.matchFrame n _ fun r _ hu => hu.deliverHoldoff n _ r

theorem makePresent (h : s.Bounded) (n : LineNo) (f : UpFields) : (s.makePresent n f).Bounded := by
  have hadmitted := h.setEntry (stationAt n f.drop) (e := (s.entry (stationAt n f.drop)).admitted f) fun he => he
  refine State.Bounded.settle (hadmitted.ite _ fun _ => State.Bounded.offer (hadmitted.setEntry _ ?_) n _) n
  exact fun he => he

theorem takeProbeAnswer (h : s.Bounded) (n : LineNo) (f : UpFields) : (takeProbeAnswer n f s).Bounded := by
  unfold Machine.takeProbeAnswer
  dsimp only
  split
  · exact h.report _
  · split
    · exact (h.signOfLife _).report _
    · exact h.report _
    all_goals exact h.makePresent n f

/-- A cause takes the pending slot only while the presented one is occupied (R156). -/
theorem placeCause (h : s.Bounded) (n : LineNo) (f : UpFields) : (s.placeCause n f).Bounded := by
  unfold State.placeCause
  dsimp only
  split
  · exact h.setEntry _ fun _ => Entry.slotsOrdered_of_presented rfl
  · next hp _ => exact h.setEntry _ fun _ => Entry.slotsOrdered_of_presented (by simp [hp])
  · exact ((h.report _).offer n _).choose n

theorem takeAttention (h : s.Bounded) (n : LineNo) (f : UpFields) : (takeAttention n f s).Bounded := by
  unfold Machine.takeAttention
  dsimp only
  split
  · exact h.report _
  · exact (h.signOfLife _).placeCause n f

theorem markAck (h : s.Bounded) (st : StationIdx) : (s.markAck st).Bounded := h.setEntry st fun he => he

theorem takeQuiesceAck (h : s.Bounded) (n : LineNo) (f : UpFields) : (takeQuiesceAck n f s).Bounded := by
  unfold Machine.takeQuiesceAck
  dsimp only
  have hlife := h.signOfLife (stationAt n f.drop)
  split
  · exact h.report _
  · split
    · exact hlife.report _
    · exact hlife.report _
    · exact (hlife.markAck _).testAcks n
    · exact hlife.markAck _

theorem takeFrame (h : s.Bounded) (k : FrameKind) (n : LineNo) (f : UpFields) : (takeFrame k n f s).Bounded := by
  cases k with
  | reply => exact h.takeReply n f
  | holdoff => exact h.takeHoldoff n f
  | probeAnswer => exact h.takeProbeAnswer n f
  | attention => exact h.takeAttention n f
  | quiesceAck => exact h.takeQuiesceAck n f
  | request | abandon | probe | quiesce | attnRefused => exact h

/-! ### Characters (R100, R104 to R108) -/

theorem charTaken (h : s.Bounded) (n : LineNo) (mark : Bool) (c : RxCond) : (s.charTaken n mark c).Bounded := by
  unfold State.charTaken
  split
  · exact h.setLine n fun hl => hl
  all_goals
    refine State.Bounded.congr (s := s.setLine n _) ?_ rfl rfl rfl
    exact h.setLine n fun hl => hl

theorem goodCharacter (h : s.Bounded) (n : LineNo) (b : Byte) : (s.goodCharacter n b).Bounded := by
  unfold State.goodCharacter
  split
  · exact h.charTaken n _ _
  · unfold State.assemble
    split
    · exact (h.charTaken n _ _).report _
    · split
      · unfold State.frameArrived
        dsimp only
        split
        · split
          · exact (h.charTaken n _ _).takeFrame _ n _
          · exact h.charTaken n _ _
        · exact (h.charTaken n _ _).report _
      · exact h.charTaken n _ _
  · exact h.charTaken n _ _

theorem badCharacter (h : s.Bounded) (n : LineNo) : (s.badCharacter n).Bounded := by
  unfold State.badCharacter
  split
  · exact h.charTaken n _ _
  · exact (h.charTaken n _ _).report _
  · exact h.charTaken n _ _

theorem gapExpiry (h : s.Bounded) (n : LineNo) : (s.gapExpiry n).Bounded := by
  unfold State.gapExpiry
  split
  · exact h
  · refine State.Bounded.report (h.setLine n ?_) _
    exact fun hl => hl
  · exact h

theorem receiveFrame (h : s.Bounded) (k : FrameKind) (n : LineNo) (f : UpFields) {take : State → State}
    (ht : ∀ u : State, u.Bounded → (take u).Bounded) : (s.receiveFrame k n f take).Bounded :=
  h.ite _ fun _ => ht _ (h.charTaken n _ _)

/-! ### Links, line resets and the soft reset (R57, R58, R97, R112 to R114, R195) -/

theorem linkUp (h : s.Bounded) (n : LineNo) : (s.linkUp n).Bounded := by
  unfold State.linkUp
  dsimp only
  refine State.Bounded.choose (State.Bounded.probeSweep (State.Bounded.mapLineEntries ?_ n fun _ =>
    Entry.slotsOrdered_dueIfProbed _) n) n
  exact h.setLine n fun hl => hl

/-- A line that loses its link gives up its control frames (R88). -/
theorem unlinked (h : s.Bounded) (n : LineNo) (k : Link) : (s.setLine n ((s.line n).unlinked k)).Bounded :=
  h.setLine n fun _ => Nat.zero_le _

theorem linkDown (h : s.Bounded) (n : LineNo) : (s.linkDown n).Bounded := by
  unfold State.linkDown
  refine State.Bounded.settle (State.Bounded.mapLineEntries ?_ n fun _ => Entry.slotsOrdered_lostByDown _) n
  exact (h.unlinked n .down).endRecords _ _ _

theorem linkOff (h : s.Bounded) (n : LineNo) : (s.linkOff n).Bounded := by
  unfold State.linkOff
  refine State.Bounded.settle (State.Bounded.mapLineEntries ?_ n fun _ => Entry.slotsOrdered_byOff _) n
  exact (h.unlinked n .off).endRecords _ _ _

theorem lineEnabled (h : s.Bounded) (n : LineNo) (on : Bool) : (s.lineEnabled n on).Bounded := by
  unfold State.lineEnabled
  split
  · exact h.ite _ fun _ => h.setLine n fun hl => hl
  · split
    · exact h
    · exact h.linkOff n

theorem lineResetActs (h : s.Bounded) (n : LineNo) : (s.lineResetActs n).Bounded := by
  unfold State.lineResetActs
  dsimp only
  have hended := h.endRecords .lineReset false (s.liveOnLine n)
  generalize s.endRecords .lineReset false (s.liveOnLine n) = u at hended ⊢
  have hline := hended.setLine n (l := (u.line n).resetOwn) fun _ => Nat.zero_le _
  have hentries := hline.mapLineEntries n (f := Entry.reset u.tick) fun _ => Entry.slotsOrdered_reset _
  exact ((hentries.withPort _).probeSweep n).choose n

theorem lineResetTaken (h : s.Bounded) (n : LineNo) : (s.lineResetTaken n).Bounded := by
  unfold State.lineResetTaken
  split
  · exact h.lineResetActs n
  · exact h.setLine n fun hl => hl

theorem chooseAll (h : s.Bounded) : s.chooseAll.Bounded := foldl (fun _ n hs => hs.choose n) _ h

theorem endPeriod (h : s.Bounded) : s.endPeriod.Bounded := by
  unfold State.endPeriod
  have hover : State.Bounded { s with resetting := false } := h.congr rfl rfl rfl
  refine State.Bounded.chooseAll (hover.mapLines fun _ l hl => ?_)
  split <;> exact hl

theorem beginPeriod (h : s.Bounded) : s.beginPeriod.Bounded := by
  unfold State.beginPeriod
  split
  · exact h.endPeriod
  · exact h.congr rfl rfl rfl

/-- A soft reset empties the control queues, and the slots of every entry that is not DISABLED (R68, R98). -/
theorem softened (h : s.Bounded) : s.softened.Bounded := by
  refine State.Bounded.mapEntries (State.Bounded.mapLines (s := s.softExchanges) (h.congr ?_ ?_ ?_)
    fun _ _ _ => Nat.zero_le _) fun _ _ => Entry.slotsOrdered_reset _
  · exact s.softExchanges_lines
  · exact s.softExchanges_stations
  · simp only [State.softExchanges, State.mapRecords_faults]

theorem takeSoftReset (h : s.Bounded) : (takeSoftReset s).Bounded :=
  State.Bounded.beginPeriod (foldl (fun _ n hs => hs.probeSweep n) _ h.softened)

/-! ### The ends of frames, deadlines and the line service (R93, R95, R131 to R135, R161, R166, R169) -/

theorem afterIdle (h : s.Bounded) (n : LineNo) : (s.afterIdle n).Bounded := by
  unfold State.afterIdle
  dsimp only
  have hreset := h.ite (t := s.lineResetActs n) ((s.line n).resetWaiting = true) fun _ => h.lineResetActs n
  generalize (if (s.line n).resetWaiting = true then s.lineResetActs n else s) = u at hreset ⊢
  split
  · exact hreset.ite _ fun _ => hreset.endPeriod
  · exact hreset.choose n

theorem idleTx (h : s.Bounded) (n : LineNo) : ((s.setLine n { s.line n with tx := .idle }).afterIdle n).Bounded := by
  refine State.Bounded.afterIdle (h.setLine n ?_) n
  exact fun hl => hl

theorem presentHandle (h : s.Bounded) (k : Option Handle) : (s.presentHandle k).Bounded := by
  unfold State.presentHandle
  split
  · exact h
  · exact h.ite _ fun _ => h.setRecord _ _

theorem transmitEnd (h : s.Bounded) (n : LineNo) : (s.transmitEnd n).Bounded := by
  unfold State.transmitEnd
  split
  · exact h
  · exact (h.presentHandle _).idleTx n
  · exact h

theorem stoppingEnd (h : s.Bounded) (n : LineNo) : (s.stoppingEnd n).Bounded := by
  unfold State.stoppingEnd
  split
  · exact h
  · exact h
  · exact h.idleTx n

theorem txEnd (h : s.Bounded) (n : LineNo) : (s.txEnd n).Bounded := by
  unfold State.txEnd
  split
  · exact h.afterIdle n
  · exact h.transmitEnd n
  · exact h.stoppingEnd n

theorem countFailure (h : s.Bounded) (st : StationIdx) : (s.countFailure st).Bounded := h.setEntry st fun he => he

theorem timeOut (h : s.Bounded) (r : RecordIdx) : (s.timeOut r).Bounded := h.endRecords _ _ _

theorem replyExpiry (h : s.Bounded) (r : RecordIdx) : (s.replyExpiry r).Bounded := by
  unfold State.replyExpiry
  dsimp only
  have hcounted := h.countFailure (s.record r).station
  split
  · exact hcounted.loseStation _
  · split
    · exact ((hcounted.setRecord r _).queueAtHead r).settle _
    · exact (hcounted.timeOut r).settle _

theorem segmentExpiry (h : s.Bounded) (r : RecordIdx) : (s.segmentExpiry r).Bounded := by
  unfold State.segmentExpiry
  dsimp only
  have hcounted := h.countFailure (s.record r).station
  split
  · exact hcounted.loseStation _
  · exact (hcounted.timeOut r).settle _

theorem quiesceLine (h : s.Bounded) (n : LineNo) : (s.quiesceLine n).Bounded := by
  refine State.Bounded.settle (h.setLine n ?_) n
  exact fun hl => hl

theorem resumeLine (h : s.Bounded) (n : LineNo) : (s.resumeLine n).Bounded := by
  refine State.Bounded.choose (State.Bounded.probeSweep (h.setLine n ?_) n) n
  exact fun hl => hl

theorem quiesceExpiry (h : s.Bounded) (n : LineNo) : (s.quiesceExpiry n).Bounded := by
  unfold State.quiesceExpiry
  split
  · exact h
  · exact h.ite _ fun _ => h.setLine n fun hl => hl

end State.Bounded

end Sys2Proof.Machine
end

section
/-!
The controller port, the resets and the step keep the bounds.
-/

namespace Sys2Proof.Machine

namespace State.Bounded

variable {s t : State}

theorem respond (h : s.Bounded) (bs : List Byte) : (s.respond bs).Bounded := h.withPort _

theorem closePort (h : s.Bounded) : s.closePort.Bounded := h.congr rfl rfl rfl

/-! ### Decisions (R185) -/

theorem takePostAdmission (h : s.Bounded) (h1 h2 h3 h4 : Byte) : (takePostAdmission h1 h2 h3 h4 s).Bounded := by
  unfold Machine.takePostAdmission
  split
  · exact (h.respond _).commandError
  · split
    · exact h.respond _
    · split
      · exact h.congr rfl rfl rfl
      · exact h.respond _

theorem cancelRecord (h : s.Bounded) (r : RecordIdx) : (s.cancelRecord r).Bounded := by
  unfold State.cancelRecord
  dsimp only
  refine State.Bounded.settle ?_ _
  split
  · exact (h.endRecords _ _ _).offer _ _
  · exact h.endRecords _ _ _

theorem takeCancel (h : s.Bounded) (index gen : Byte) : (takeCancel index gen s).Bounded := by
  unfold Machine.takeCancel
  split
  · exact h.commandError
  · exact h.respond _
  · split
    · exact h.respond _
    · exact h.ite _ fun _ => (h.cancelRecord _).respond _

theorem takeCollect (h : s.Bounded) (index gen : Byte) : (takeCollect index gen s).Bounded := by
  unfold Machine.takeCollect
  split
  · exact h.commandError
  · exact h.respond _
  · split
    · exact h.congr rfl rfl rfl
    · exact h.respond _

theorem takeCollectNext (h : s.Bounded) : (takeCollectNext s).Bounded := by
  unfold Machine.takeCollectNext
  split
  · exact h.respond _
  · exact h.congr rfl rfl rfl

theorem takeReadRecord (h : s.Bounded) (index gen : Byte) : (takeReadRecord index gen s).Bounded := by
  unfold Machine.takeReadRecord
  split
  · exact h.commandError
  · exact h.respond _
  · exact h.respond _

theorem takeReadStation (h : s.Bounded) (b : Byte) : (takeReadStation b s).Bounded := by
  unfold Machine.takeReadStation
  split
  · exact h.commandError
  · exact h.respond _

theorem enableStation (h : s.Bounded) (st : StationIdx) : (s.enableStation st).Bounded := by
  unfold State.enableStation
  dsimp only
  refine State.Bounded.choose (State.Bounded.probeSweep ?_ _) _
  exact h.setEntry st fun he => he

theorem takeEnableStation (h : s.Bounded) (b : Byte) : (takeEnableStation b s).Bounded := by
  unfold Machine.takeEnableStation
  split
  · exact h.commandError
  · split
    · exact (h.enableStation _).respond _
    all_goals exact h.respond _

/-- DISABLE STATION empties both slots (R60). -/
theorem disableStation (h : s.Bounded) (st : StationIdx) : (s.disableStation st).Bounded := by
  unfold State.disableStation
  refine State.Bounded.settle (State.Bounded.offerAll ?_ _ _) _
  exact (h.endRecords _ _ _).setEntry st fun _ => Entry.slotsOrdered_of_no_pending rfl

theorem takeDisableStation (h : s.Bounded) (b : Byte) : (takeDisableStation b s).Bounded := by
  unfold Machine.takeDisableStation
  split
  · exact h.commandError
  · split
    · exact h.respond _
    all_goals exact (h.disableStation _).respond _

theorem takeAckAttention (h : s.Bounded) (b : Byte) : (takeAckAttention b s).Bounded := by
  unfold Machine.takeAckAttention
  split
  · exact h.commandError
  · split <;> exact h.respond _

theorem takeReadLine (h : s.Bounded) (b : Byte) : (takeReadLine b s).Bounded := by
  unfold Machine.takeReadLine
  split
  · exact h.commandError
  · exact h.respond _

theorem takeQuiesceLine (h : s.Bounded) (b : Byte) : (takeQuiesceLine b s).Bounded := by
  unfold Machine.takeQuiesceLine
  split
  · exact h.commandError
  · split
    · exact (h.quiesceLine _).respond _
    · exact h.respond _

theorem takeResumeLine (h : s.Bounded) (b : Byte) : (takeResumeLine b s).Bounded := by
  unfold Machine.takeResumeLine
  split
  · exact h.commandError
  · split
    · exact h.respond _
    · exact (h.resumeLine _).respond _

theorem takeReadParameter (h : s.Bounded) (number index : Byte) : (takeReadParameter number index s).Bounded := by
  unfold Machine.takeReadParameter
  split
  · exact h.commandError
  · split
    · exact h.respond _
    · exact h.commandError

theorem takeDecision (h : s.Bounded) (o : Opcode) (p : Nat → Byte) : (takeDecision o p s).Bounded := by
  cases o with
  | readStatus | readErrors => exact h.respond _
  | post => exact h.takePostAdmission _ _ _ _
  | cancel => exact h.takeCancel _ _
  | collect => exact h.takeCollect _ _
  | collectNext => exact h.takeCollectNext
  | readRecord => exact h.takeReadRecord _ _
  | readStation => exact h.takeReadStation _
  | enableStation => exact h.takeEnableStation _
  | disableStation => exact h.takeDisableStation _
  | ackAttention => exact h.takeAckAttention _
  | readLine => exact h.takeReadLine _
  | quiesceLine => exact h.takeQuiesceLine _
  | resumeLine => exact h.takeResumeLine _
  | readParameter => exact h.takeReadParameter _ _
  | readStationChanges | lineReset | setParameter | clearErrors | softReset => exact h

theorem arriveThrough (h : s.Bounded) (o : Opcode) (ps : List Byte) {take : State → State}
    (ht : ∀ u : State, u.Bounded → (take u).Bounded) : (s.arriveThrough o ps take).Bounded :=
  h.ite _ fun _ => by
    dsimp only
    split
    · exact h.withPort _
    · exact ht _ (h.withPort _)

/-! ### The rise of CSn (R185) -/

theorem takePostCommit (h : s.Bounded) : (takePostCommit s).Bounded := by
  unfold Machine.takePostCommit
  split
  · exact h
  · split
    · unfold State.commitRecord
      split
      · exact h.endRecords _ _ _
      · split
        · exact h.endRecords _ _ _
        · exact (h.queueAtTail _).choose _
    · exact State.Bounded.commandError (h.setRecord _ _)

theorem afterCollection (h : s.Bounded) : s.afterCollection.Bounded := by
  unfold State.afterCollection
  split
  · exact h.congr rfl rfl rfl
  · split
    · exact h
    · exact h.congr rfl rfl rfl

theorem takeCollection (h : s.Bounded) : (takeCollection s).Bounded := by
  unfold Machine.takeCollection
  split
  · exact h
  · exact h.ite _ fun _ => State.Bounded.afterCollection (h.congr rfl rfl rfl)

theorem takeStationChangesClear (h : s.Bounded) : (takeStationChangesClear s).Bounded :=
  h.mapEntries fun st e he => by
    split
    · exact slotsOrdered_clearReported _ _ he
    · exact he

/-- The pending cause is promoted, and its slot is empty (R158). -/
theorem takeAcknowledge (h : s.Bounded) : (takeAcknowledge s).Bounded := by
  unfold Machine.takeAcknowledge
  refine h.ite _ fun _ => ?_
  split
  · exact h.setEntry _ fun _ => Entry.slotsOrdered_of_no_pending rfl
  · exact h

theorem takeFinishedClear (h : s.Bounded) : (takeFinishedClear s).Bounded := by
  unfold Machine.takeFinishedClear
  refine h.ite _ fun _ => ?_
  split
  · exact h.setLine _ fun hl => hl
  · exact h

theorem takeLineReset (h : s.Bounded) (b : Byte) : (takeLineReset b s).Bounded := by
  unfold Machine.takeLineReset
  split
  · exact h.commandError
  · exact h.lineResetTaken _

theorem afterCoalesceWrite (h : s.Bounded) : s.afterCoalesceWrite.Bounded := by
  unfold State.afterCoalesceWrite
  split
  · exact h.congr rfl rfl rfl
  · split <;> exact h.congr rfl rfl rfl

theorem writeParameter (h : s.Bounded) (number index value : Nat) : (s.writeParameter number index value).Bounded := by
  unfold State.writeParameter
  split
  · exact h.commandError
  · next p _ =>
    have hwritten : State.Bounded { s with params := s.params.write p index value } := h.congr rfl rfl rfl
    unfold State.afterWrite
    split
    · split
      · exact hwritten.lineEnabled _ _
      · exact hwritten
    · exact hwritten.afterCoalesceWrite
    · exact hwritten

/-- CLEAR ERRORS empties the account (R179). -/
theorem takeClearErrors (h : s.Bounded) : (takeClearErrors s).Bounded :=
  ⟨h.control, FaultAccount.empty_bounded, h.slots⟩

theorem takeRise (h : s.Bounded) (o : Opcode) (p : Nat → Byte) : (takeRise o p s).Bounded := by
  cases o with
  | post => exact h.takePostCommit
  | collect | collectNext => exact h.takeCollection
  | readStationChanges => exact h.takeStationChangesClear
  | ackAttention => exact h.takeAcknowledge
  | readLine => exact h.takeFinishedClear
  | lineReset => exact h.takeLineReset _
  | setParameter => exact h.writeParameter _ _ _
  | clearErrors => exact h.takeClearErrors
  | softReset => exact h.takeSoftReset
  | _ => exact h

theorem riseThrough (h : s.Bounded) (bs : List Byte) {effect : State → State}
    (he : ∀ u : State, u.Bounded → (effect u).Bounded) : (s.riseThrough bs effect).Bounded :=
  h.ite _ fun _ => by
    dsimp only
    refine State.Bounded.closePort ?_
    split
    · exact h.withPort _
    · exact he _ (h.withPort _)

theorem riseWhen (h : s.Bounded) (c : Bool) {effect : State → State} (he : (effect s).Bounded) :
    (s.riseWhen c effect).Bounded := h.ite _ fun _ => he.closePort

theorem riseEffect (h : s.Bounded) : s.riseEffect.Bounded := by
  unfold State.riseEffect
  split
  · exact h
  · split
    · exact h.commandError
    · split
      · exact h.commandError
      · exact h.takeRise _ _

/-! ### The arrival of a byte (R183, R186) -/

theorem storePayload (h : s.Bounded) (k : Nat) (b : Byte) : (s.storePayload k b).Bounded := by
  unfold State.storePayload
  split
  · exact h
  · exact h.ite _ fun _ => h.setRecord _ _

theorem beginChangeByte (h : s.Bounded) : s.beginChangeByte.Bounded := by
  unfold State.beginChangeByte
  split
  · exact h.ite _ fun _ => h.respond _
  · exact h

theorem excessByte (h : s.Bounded) (k : Nat) (b : Byte) : (s.excessByte k b).Bounded := by
  unfold State.excessByte
  split
  · exact (h.storePayload k b).withPort _
  · exact h.beginChangeByte.withPort _
  · exact h.withPort _

theorem byteArrives (h : s.Bounded) (b : Byte) : (s.byteArrives b).Bounded := by
  unfold State.byteArrives
  dsimp only
  split
  · have hstored := h.withPort { s.port with bytes := s.port.bytes ++ [b], count := s.port.count + 1 }
    split
    · exact hstored
    · split
      · exact hstored
      · exact hstored.ite _ fun _ => hstored.takeDecision _ _
  · have hcounted := h.withPort { s.port with count := s.port.count + 1 }
    split
    · exact hcounted
    · exact hcounted.excessByte _ b

theorem emptyFences (h : s.Bounded) (st : StationIdx) : (s.emptyFences st).Bounded := h.setEntry st fun he => he

/-! ### Every command, and the step -/

/-- The power-on state is within the bounds, whatever came before (R67, R98, R182). -/
theorem powerOn (p : Power) (s : State) : (s.powerOn p).Bounded :=
  ⟨fun n => by rw [State.line_powerOn]; exact Nat.zero_le _, FaultAccount.empty_bounded,
    fun st => by rw [State.entry_powerOn]; exact Entry.slotsOrdered_of_no_pending rfl⟩

theorem clockPeriod (h : s.Bounded) : s.clockPeriod.Bounded := by
  have hlines := h.mapLines (f := fun n l => l.period s.pins.rxdMark[n.val] s.params.lineRate[n.val]) fun n l hl => by
    unfold Line.period
    split <;> exact hl
  exact h.ite _ fun _ => hlines.congr rfl rfl rfl

theorem next_ite (h : s.Bounded) (c : Prop) [Decidable c] (k : c → t.Bounded) :
    ∃ u, (.next (if c then t else s) : Host.Outcome State Fault Refusal) = .next u ∧ u.Bounded := ⟨_, rfl, h.ite c k⟩

theorem execPinReset (h : s.Bounded) (periods : Nat) : ∃ t, execPinReset periods s = .next t ∧ t.Bounded := by
  refine ⟨_, rfl, ?_⟩
  split
  · exact State.Bounded.powerOn _ s
  · split
    · exact h
    · dsimp only
      split
      · exact State.Bounded.powerOn _ _
      · exact h.congr rfl rfl rfl

theorem exec (h : s.Bounded) (c : Instr) : ∃ t, exec c s = .next t ∧ t.Bounded := by
  have harrive : ∀ (o : Opcode) (ps : List Byte) (p : Nat → Byte),
      (s.arriveThrough o ps (Machine.takeDecision o p)).Bounded := fun o ps p => h.arriveThrough o ps fun _ hu => hu.takeDecision o p
  have hset : ∀ number index value, (s.setRise number index value).Bounded := fun number index value =>
    h.riseThrough _ fun _ hu => hu.writeParameter _ _ _
  cases c with
  | transactionStart =>
    refine h.next_ite _ fun _ => ?_
    split <;> exact h.congr rfl rfl rfl
  | readStatus => exact ⟨_, rfl, harrive .readStatus [] (fun _ => 0#8)⟩
  | postAdmission h1 h2 h3 h4 => exact ⟨_, rfl, h.arriveThrough _ _ fun _ hu => hu.takePostAdmission _ _ _ _⟩
  | postCommit => exact ⟨_, rfl, h.riseWhen _ h.takePostCommit⟩
  | cancel index gen => exact ⟨_, rfl, harrive .cancel [index, gen] (fun i => [index, gen].getD i 0#8)⟩
  | collect index gen => exact ⟨_, rfl, harrive .collect [index, gen] (fun i => [index, gen].getD i 0#8)⟩
  | collectNext => exact ⟨_, rfl, harrive .collectNext [] (fun _ => 0#8)⟩
  | collection => exact ⟨_, rfl, h.riseWhen _ h.takeCollection⟩
  | readRecord index gen => exact ⟨_, rfl, harrive .readRecord [index, gen] (fun i => [index, gen].getD i 0#8)⟩
  | readStation b => exact ⟨_, rfl, harrive .readStation [b] (fun _ => b)⟩
  | readStationChanges =>
    refine h.next_ite _ fun _ => ?_
    have hcarried := h.withPort (s.port.havingAtLeast [Opcode.readStationChanges.code])
    dsimp only
    split
    · exact hcarried
    · exact hcarried.beginChangeByte
  | stationChangesClear => exact ⟨_, rfl, h.riseWhen _ h.takeStationChangesClear⟩
  | enableStation b => exact ⟨_, rfl, harrive .enableStation [b] (fun _ => b)⟩
  | disableStation b => exact ⟨_, rfl, harrive .disableStation [b] (fun _ => b)⟩
  | ackAttention b => exact ⟨_, rfl, harrive .ackAttention [b] (fun _ => b)⟩
  | attentionAcknowledge => exact ⟨_, rfl, h.riseWhen _ h.takeAcknowledge⟩
  | readLine b => exact ⟨_, rfl, harrive .readLine [b] (fun _ => b)⟩
  | quiesceFinishedClear => exact ⟨_, rfl, h.riseWhen _ h.takeFinishedClear⟩
  | quiesceLine b => exact ⟨_, rfl, harrive .quiesceLine [b] (fun _ => b)⟩
  | resumeLine b => exact ⟨_, rfl, harrive .resumeLine [b] (fun _ => b)⟩
  | lineReset b => exact ⟨_, rfl, h.riseThrough _ fun _ hu => hu.takeLineReset b⟩
  | lineResetAct n => exact h.next_ite _ fun _ => h.txEnd n
  | setParameter | lineEnableOn | lineEnableOff | setLineRate | setWindowLimit | setTickDivider | setUrgentReserve
  | setCoalesceCount | setNoteEnable | setErrorClass | setFaultEnable => exact ⟨_, rfl, hset _ _ _⟩
  | readParameter number index =>
    exact ⟨_, rfl, harrive .readParameter [number, index] (fun i => [number, index].getD i 0#8)⟩
  | readErrors => exact ⟨_, rfl, harrive .readErrors [] (fun _ => 0#8)⟩
  | clearErrors => exact ⟨_, rfl, h.riseThrough _ fun _ hu => hu.takeClearErrors⟩
  | softReset => exact ⟨_, rfl, h.riseThrough _ fun _ hu => hu.takeSoftReset⟩
  | resetPeriodEnd =>
    refine h.next_ite _ fun _ => ?_
    split
    · exact h.endPeriod
    · exact h.txEnd _
    · exact h
  | unknownOpcode b => exact h.next_ite _ fun _ => h.riseThrough _ fun _ hu => hu.commandError
  | shortInstruction =>
    refine ⟨_, rfl, h.riseWhen _ ?_⟩
    unfold takeShort
    split
    · exact h.commandError
    · exact h.takePostCommit
  | pinReset periods => exact h.execPinReset periods
  | resetnRelease => exact h.next_ite _ fun _ => h.congr rfl rfl rfl
  | powerOnReset => exact ⟨_, rfl, State.Bounded.powerOn _ s⟩
  | tick => exact h.next_ite _ fun _ => h.congr rfl rfl rfl
  | linkUp n => exact h.next_ite _ fun _ => h.linkUp n
  | linkDown n => exact h.next_ite _ fun _ => h.linkDown n
  | reply n f => exact ⟨_, rfl, h.receiveFrame _ n f fun _ hu => hu.takeReply n f⟩
  | holdoff n f => exact ⟨_, rfl, h.receiveFrame _ n f fun _ hu => hu.takeHoldoff n f⟩
  | probeAnswer n f => exact ⟨_, rfl, h.receiveFrame _ n f fun _ hu => hu.takeProbeAnswer n f⟩
  | attention n f => exact ⟨_, rfl, h.receiveFrame _ n f fun _ hu => hu.takeAttention n f⟩
  | quiesceAck n f => exact ⟨_, rfl, h.receiveFrame _ n f fun _ hu => hu.takeQuiesceAck n f⟩
  | charError n => exact h.next_ite _ fun _ => h.badCharacter n
  | formatError n => exact h.next_ite _ fun _ => (h.charTaken n _ _).report _
  | checkError n => exact h.next_ite _ fun _ => (h.charTaken n _ _).report _
  | receiveGapExpiry n => exact h.next_ite _ fun _ => h.gapExpiry n
  | discardIdleEnd n => exact h.next_ite _ fun _ => h.setLine n fun hl => hl
  | transmitEnd n => exact h.next_ite _ fun _ => h.transmitEnd n
  | stoppingEnd n => exact h.next_ite _ fun _ => h.stoppingEnd n
  | replyDeadlineExpiry r => exact h.next_ite _ fun _ => h.replyExpiry r
  | segmentDeadlineExpiry r => exact h.next_ite _ fun _ => h.segmentExpiry r
  | holdoffDeadlineExpiry r => exact h.next_ite _ fun _ => (h.queueAtHead r).settle _
  | fenceExpiry st => exact h.next_ite _ fun _ => (h.emptyFences st).choose _
  | probeDue st =>
    refine h.next_ite _ fun _ => State.Bounded.choose (State.Bounded.probeSweep ?_ _) _
    exact h.setEntry st fun he => he
  | idleTimerExpiry => exact h.next_ite _ fun _ => h.congr rfl rfl rfl
  | quiesceDeadlineExpiry n => exact h.next_ite _ fun _ => h.quiesceExpiry n
  | byteArrival b => exact h.next_ite _ fun _ => h.byteArrives b
  | transactionEnd =>
    refine ⟨_, rfl, ?_⟩
    split
    · exact h
    · split
      · exact h.riseEffect.closePort
      · exact h.closePort
  | goodCharacter n b => exact h.next_ite _ fun _ => h.goodCharacter n b
  | rxdTransition n =>
    refine ⟨_, rfl, ?_⟩
    split
    · refine State.Bounded.congr (s := s.setLine n _) (h.setLine n fun hl => ?_) rfl rfl rfl
      split <;> exact hl
    · exact h.congr rfl rfl rfl
  | refclkLoss cause => exact ⟨_, rfl, State.Bounded.powerOn _ s⟩
  | refclkReturn =>
    refine ⟨_, rfl, ?_⟩
    split
    · exact h
    · exact h.congr rfl rfl rfl

/-- A step gives the effect of a command, or lets one period pass. -/
theorem step (h : s.Bounded) (hs : step s = .next t) : t.Bounded := by
  have hexec : ∀ {u : State} {c : Instr}, Machine.exec c u = .next t → u.Bounded → t.Bounded := by
    intro u c hc hu
    obtain ⟨v, hv, hbounded⟩ := hu.exec c
    rw [hc] at hv
    cases hv
    exact hbounded
  unfold Machine.step at hs
  split at hs
  · exact hexec hs (h.congr rfl rfl rfl)
  · unfold State.idleStep at hs
    split at hs
    · cases hs
      exact h.clockPeriod
    · exact hexec hs h
    · exact hexec hs (h.congr rfl rfl rfl)

end State.Bounded

/-- Settles O54: a control frame joins only a queue with room, the counters saturate, and a cause takes the pending
slot only beside a presented one. -/
theorem boundsKept : Obligations.BoundsKept := by
  intro s t hcontrol hfaults hslots hs
  obtain ⟨hcontrol, hfaults, hslots⟩ := State.Bounded.step ⟨hcontrol, hfaults, hslots⟩ hs
  exact ⟨hcontrol, hfaults, hslots⟩

end Sys2Proof.Machine
end

section
/-!
LINE RESET as the controller gives it, and as it waits for its transmitter (R97, R196).
-/

namespace Sys2Proof.Machine

/-! ### The port has no part in a line reset but for an acknowledgement in progress (R158) -/

theorem State.line_onPort (p : Port) (s : State) (n : LineNo) : (s.onPort p).line n = s.line n := rfl

theorem State.offer_onPort (p : Port) (n : LineNo) (c : ControlFrame) (s : State) :
    (s.onPort p).offer n c = (s.offer n c).onPort p := by
  unfold State.offer
  rw [State.line_onPort]
  split
  · split <;> rfl
  · rfl

theorem State.probeOne_onPort (p : Port) (n : LineNo) (s : State) (d : DropNo) :
    (s.onPort p).probeOne n d = (s.probeOne n d).onPort p := by
  have hready : (s.onPort p).probeReady n d = s.probeReady n d := rfl
  unfold State.probeOne
  rw [hready, State.offer_onPort]
  split <;> rfl

theorem State.probeSweep_onPort (p : Port) (n : LineNo) (s : State) :
    (s.onPort p).probeSweep n = (s.probeSweep n).onPort p :=
  List.foldl_hom (State.onPort p) fun u d => State.probeOne_onPort p n u d

theorem State.dispatch_onPort (p : Port) (n : LineNo) (h : Handle) (s : State) :
    (s.onPort p).dispatch n h = (s.dispatch n h).onPort p := by
  have hrecord : (s.onPort p).record h.index = s.record h.index := rfl
  have hfree : ∀ st, (s.onPort p).firstFree st = s.firstFree st := fun _ => rfl
  unfold State.dispatch
  rw [hrecord, hfree]
  split
  · rfl
  · split <;> rfl

theorem State.choose_onPort (p : Port) (n : LineNo) (s : State) : (s.onPort p).choose n = (s.choose n).onPort p := by
  have hresetting : (s.onPort p).resetting = s.resetting := rfl
  have heligible : (s.onPort p).eligible n = s.eligible n := rfl
  unfold State.choose
  rw [State.line_onPort, hresetting, heligible]
  split
  · split
    · rfl
    · split
      · exact State.dispatch_onPort p n _ s
      · rfl
  · rfl

theorem State.resetLine_onPort (p : Port) (n : LineNo) (s : State) :
    (s.onPort p).resetLine n = (s.resetLine n).onPort p := by
  have hend : (s.onPort p).endRecords .lineReset false ((s.onPort p).liveOnLine n) =
      (s.endRecords .lineReset false (s.liveOnLine n)).onPort p := State.endRecords_onPort p _ _ _ s
  unfold State.resetLine
  rw [hend]
  rfl

theorem State.lineResetActs_onPort (p : Port) (n : LineNo) (s : State) :
    (s.onPort p).lineResetActs n = (s.lineResetActs n).onPort (p.voidAck n) := by
  have hcleared : (s.onPort p).resetCleared n = (s.resetCleared n).onPort (p.voidAck n) := by
    unfold State.resetCleared
    rw [State.resetLine_onPort]
    rfl
  rw [State.lineResetActs_eq, State.lineResetActs_eq, hcleared, State.probeSweep_onPort, State.choose_onPort]

/-! ### The instruction (R196) -/

theorem lineOfByte_none {b : Byte} (h : 8 ≤ b.toNat) : lineOfByte b = none := dif_neg (Nat.not_lt.mpr h)

theorem lineOfByte_some {b : Byte} {n : LineNo} (h : b.toNat = n.val) : lineOfByte b = some n := by
  have hlt : b.toNat < 8 := h ▸ n.isLt
  rw [lineOfByte, dif_pos hlt]
  exact congrArg some (Fin.ext h)

theorem takeLineReset_none {b : Byte} (h : 8 ≤ b.toNat) (s : State) : takeLineReset b s = s.commandError := by
  rw [takeLineReset, lineOfByte_none h]

theorem takeLineReset_some {b : Byte} {n : LineNo} (h : b.toNat = n.val) (s : State) :
    takeLineReset b s = s.lineResetTaken n := by
  rw [takeLineReset, lineOfByte_some h]

/-- LINE RESET is the rise of CSn with its effect (R196). -/
theorem exec_lineReset {s : State} {b : Byte} (h : s.Serving [0xC6#8, b]) :
    exec (.lineReset b) s = .next (takeLineReset b (s.onPort (s.port.havingAtLeast [0xC6#8, b]))).closePort :=
  congrArg Host.Outcome.next (State.riseThrough_eq (takeLineReset b) h)

/-! ### The transmitter becomes IDLE (R93, R95, R97) -/

/-- The transmitter of a line becomes IDLE in the state that the end of its frame has left (R93, R95). -/
def State.idleTx (n : LineNo) (s : State) : State := s.setLine n { s.line n with tx := .idle }

theorem State.transmitEnd_of_sending {s : State} {n : LineNo} {f : Frame} {h : Option Handle} {c : TxPos}
    (htx : (s.line n).tx = .sending f h c) : s.transmitEnd n = ((s.presentHandle h).idleTx n).afterIdle n := by
  rw [State.transmitEnd, htx]
  rfl

theorem State.stoppingEnd_of_stopping {s : State} {n : LineNo} {f : Frame} {c : TxPos}
    (htx : (s.line n).tx = .stopping f c) : s.stoppingEnd n = (s.idleTx n).afterIdle n := by
  rw [State.stoppingEnd, htx]
  rfl

theorem State.txEnd_of_sending {s : State} {n : LineNo} {f : Frame} {h : Option Handle} {c : TxPos}
    (htx : (s.line n).tx = .sending f h c) : s.txEnd n = s.transmitEnd n := by
  rw [State.txEnd, htx]

theorem State.txEnd_of_stopping {s : State} {n : LineNo} {f : Frame} {c : TxPos}
    (htx : (s.line n).tx = .stopping f c) : s.txEnd n = s.stoppingEnd n := by
  rw [State.txEnd, htx]

theorem exec_transmitEnd {s : State} (ho : s.operating = true) (n : LineNo) :
    exec (.transmitEnd n) s = .next (s.transmitEnd n) := congrArg Host.Outcome.next (if_pos ho)

theorem exec_stoppingEnd {s : State} (ho : s.operating = true) (n : LineNo) :
    exec (.stoppingEnd n) s = .next (s.stoppingEnd n) := congrArg Host.Outcome.next (if_pos ho)

theorem exec_lineResetAct {s : State} {n : LineNo} (ho : s.operating = true) (hw : (s.line n).resetWaiting = true) :
    exec (.lineResetAct n) s = .next (s.txEnd n) := congrArg Host.Outcome.next (if_pos (by rw [ho, hw]; rfl))

/-- A presented handle changes one record at most, and no line (R12). -/
theorem State.presentHandle_same (h : Option Handle) (s : State) :
    (s.presentHandle h).lines = s.lines ∧ s.Quiet (s.presentHandle h) := by
  unfold State.presentHandle
  split
  · exact ⟨rfl, State.Quiet.refl s⟩
  · dsimp only
    split
    · exact ⟨rfl, s.quiet_setRecord _ _⟩
    · exact ⟨rfl, State.Quiet.refl s⟩

theorem State.lineResetActs_resetting (n : LineNo) (s : State) : (s.lineResetActs n).resetting = s.resetting := by
  have hcleared : (s.resetCleared n).resetting = s.resetting :=
    ((s.rest_endRecords .lineReset false (s.liveOnLine n)).trans (s.quiet_resetLine n).rest).resetting
  have hquiet := ((s.resetCleared n).quiet_probeSweep n).trans (State.quiet_choose n _)
  rw [State.lineResetActs_eq]
  exact hquiet.rest.resetting.trans hcleared

/-- A waiting line reset acts as the transmitter becomes IDLE, and then the arbiter chooses (R91, R97). -/
theorem State.afterIdle_of_waiting {s : State} {n : LineNo} (hw : (s.line n).resetWaiting = true)
    (hr : s.resetting = false) : s.afterIdle n = (s.lineResetActs n).choose n := by
  have hover : ¬ (s.lineResetActs n).resetting = true := by rw [State.lineResetActs_resetting, hr]; exact nofun
  unfold State.afterIdle
  simp only [if_pos hw]
  exact if_neg hover

theorem State.resetWaiting_idleTx (n : LineNo) (s : State) :
    ((s.idleTx n).line n).resetWaiting = (s.line n).resetWaiting := by
  rw [State.idleTx, State.line_setLine_self]

/-- Settles O28: by the line byte and the transmitter, and by what the frame that ends was. -/
theorem lineResetTaken : Obligations.LineResetTaken := by
  refine ⟨fun s b h => ?_, fun s n ho hw hr => ⟨fun f h p htx u hu => ?_, fun f p htx => ?_⟩⟩
  · rw [exec_lineReset h]
    refine ⟨fun hb => ?_, fun n hb => ⟨fun htx => ?_, fun htx => ?_⟩⟩
    · rw [takeLineReset_none hb]
      rfl
    · rw [takeLineReset_some hb, State.lineResetTaken, State.line_onPort, if_neg htx]
      rfl
    · rw [takeLineReset_some hb, State.lineResetTaken, State.line_onPort, if_pos htx, State.lineResetActs_onPort,
        State.closePort_onPort]
  · obtain ⟨hlines, hquiet⟩ := s.presentHandle_same h
    rw [exec_lineResetAct ho hw, exec_transmitEnd ho, State.txEnd_of_sending htx]
    refine ⟨_, rfl, rfl, ?_⟩
    rw [State.transmitEnd_of_sending htx, ← hu, State.afterIdle_of_waiting]
    · rfl
    · rw [State.resetWaiting_idleTx, hu, State.line_congr hlines, hw]
    · exact (hu ▸ hquiet.rest.resetting).trans hr
  · rw [exec_lineResetAct ho hw, exec_stoppingEnd ho, State.txEnd_of_stopping htx]
    refine ⟨_, rfl, rfl, ?_⟩
    rw [State.stoppingEnd_of_stopping htx, State.afterIdle_of_waiting]
    · rfl
    · rw [State.resetWaiting_idleTx, hw]
    · exact hr

end Sys2Proof.Machine
end

section
/-!
The end of the in-progress period of a soft reset (R91, R93, R97, R117, R195).
-/

namespace Sys2Proof.Machine

/-! ### Which transmitters are busy -/

/-- Every transmitter is IDLE but that of one line. -/
theorem State.busyLines_eq_singleton {s : State} {n : LineNo} (hn : (s.line n).tx ≠ .idle)
    (ho : ∀ m, m ≠ n → (s.line m).tx = .idle) : s.busyLines = [n] := by
  have hfilter : s.busyLines = (List.finRange 8).filter (· == n) :=
    List.filter_congr fun m _ => Bool.eq_iff_iff.mpr (by
      rw [bne_iff_ne, beq_iff_eq]
      exact ⟨fun h => by_contra fun hm => h (ho m hm), fun h => h ▸ hn⟩)
  rw [hfilter, List.filter_beq, List.count_eq_one_of_mem (List.nodup_finRange 8) (List.mem_finRange n)]
  rfl

theorem State.tx_idleTx (n m : LineNo) (s : State) :
    ((s.idleTx n).line m).tx = if m = n then .idle else (s.line m).tx := by
  rw [State.idleTx, State.line_setLine]
  split <;> rfl

/-- The sweep touches no transmitter. -/
theorem State.tx_probeSweep (n m : LineNo) (s : State) : ((s.probeSweep n).line m).tx = (s.line m).tx := by
  refine State.foldl_keeps (fun u : State => (u.line m).tx) _ (fun u d => ?_) _ s
  unfold State.probeOne
  split
  · obtain ⟨q, hq⟩ := State.offer_line_fields n m (.probe d) u
    rw [State.line_setEntry, hq]
  · rfl

/-- Nor does what a line reset does before the choice. -/
theorem State.tx_resetCleared (n m : LineNo) (s : State) : ((s.resetCleared n).line m).tx = (s.line m).tx := by
  have hended : ∀ k, ((s.endRecords .lineReset false (s.liveOnLine n)).line k).tx = (s.line k).tx := fun k => by
    rw [State.line_endRecords]
  have hline : (s.resetCleared n).line m = ((s.endRecords .lineReset false (s.liveOnLine n)).setLine n
      ((s.endRecords .lineReset false (s.liveOnLine n)).line n).resetOwn).line m := by
    rw [State.line_congr (show (s.resetCleared n).lines = (s.resetLine n).lines from rfl), State.resetLine]
    exact State.line_mapLineEntries _ n _ m
  rw [hline, State.line_setLine]
  split
  · next h => rw [Line.resetOwn_eq, hended, h]
  · exact hended m

/-- While RESETTING is 1 a line reset starts no frame (R90). -/
theorem State.tx_lineResetActs {s : State} (hr : s.resetting = true) (n m : LineNo) :
    ((s.lineResetActs n).line m).tx = (s.line m).tx := by
  have hswept : ((s.resetCleared n).probeSweep n).resetting = true := by
    rw [((s.resetCleared n).quiet_probeSweep n).rest.resetting]
    exact ((s.rest_endRecords .lineReset false (s.liveOnLine n)).trans (s.quiet_resetLine n).rest).resetting.trans hr
  rw [State.lineResetActs_eq, State.choose_of_busy _ _ (.inr (.inr hswept)), State.tx_probeSweep, State.tx_resetCleared]

/-! ### A transmitter that becomes IDLE while RESETTING is 1 -/

/-- A line reset that waits acts (R97). -/
def State.waitingReset (n : LineNo) (s : State) : State := if (s.line n).resetWaiting then s.lineResetActs n else s

theorem State.waitingReset_resetting (n : LineNo) (s : State) : (s.waitingReset n).resetting = s.resetting := by
  unfold State.waitingReset
  split
  · exact s.lineResetActs_resetting n
  · rfl

theorem State.tx_waitingReset {s : State} (hr : s.resetting = true) (n m : LineNo) :
    ((s.waitingReset n).line m).tx = (s.line m).tx := by
  unfold State.waitingReset
  split
  · exact State.tx_lineResetActs hr n m
  · rfl

/-- The period ends when no other transmitter is busy (R195). -/
theorem State.afterIdle_of_last {s : State} {n : LineNo} (hr : s.resetting = true)
    (hi : ∀ m, (s.line m).tx = .idle) : s.afterIdle n = (s.waitingReset n).endPeriod := by
  have hempty : (s.waitingReset n).busyLines.isEmpty = true :=
    (State.busyLines_isEmpty _).mpr fun m => (State.tx_waitingReset hr n m).trans (hi m)
  exact (if_pos ((s.waitingReset_resetting n).trans hr)).trans (if_pos hempty)

/-- The period goes on while another transmitter is busy (R195). -/
theorem State.afterIdle_of_busy {s : State} {n m : LineNo} (hr : s.resetting = true)
    (hw : (s.line n).resetWaiting = false) (hm : (s.line m).tx ≠ .idle) : s.afterIdle n = s := by
  have hbusy : ¬ s.busyLines.isEmpty = true := fun he => hm (s.busyLines_isEmpty.mp he m)
  unfold State.afterIdle
  simp only [hw, Bool.false_eq_true, if_false]
  rw [if_pos hr, if_neg hbusy]

theorem State.endPeriod_resetting (s : State) : s.endPeriod.resetting = false := by
  have hquiet : ∀ u : State, u.chooseAll.resetting = u.resetting := fun u =>
    (State.quiet_foldl _ (fun x m => x.quiet_choose m) _ u).rest.resetting
  rw [State.endPeriod, hquiet, State.mapLines_resetting]

theorem exec_resetPeriodEnd_of_last {s : State} {n : LineNo} (ho : s.operating = true) (hr : s.resetting = true)
    (hb : s.busyLines = [n]) : exec .resetPeriodEnd s = .next (s.txEnd n) :=
  congrArg Host.Outcome.next ((if_pos (by rw [ho, hr]; rfl)).trans (by rw [hb]))

/-- The event in which the last busy transmitter becomes IDLE, `u` being what the end of its frame leaves (R195). -/
theorem State.idleTx_of_last {s u : State} {n : LineNo} (hr : s.resetting = true)
    (ho : ∀ m, m ≠ n → (s.line m).tx = .idle) (hu : u.lines = s.lines ∧ s.Quiet u) :
    (u.idleTx n).afterIdle n = ((u.idleTx n).waitingReset n).endPeriod := by
  refine State.afterIdle_of_last (hu.2.rest.resetting.trans hr) fun m => ?_
  rw [State.tx_idleTx]
  split
  · rfl
  · next hm => rw [State.line_congr hu.1, ho m hm]

/-- Settles O31: by whether the transmitter that becomes IDLE is the last busy one. -/
theorem resetPeriodEnds : Obligations.ResetPeriodEnds := by
  refine ⟨fun s n u v t ho hr hothers hn hu hv ht => ?_, fun s n ho hr ⟨m, hm, hbusy⟩ hw =>
    ⟨fun f h p htx u hu => ?_, fun f p htx => ?_⟩⟩
  · have hsame : u.lines = s.lines ∧ s.Quiet u := by
      rw [hu]
      split
      · exact s.presentHandle_same _
      · exact ⟨rfl, State.Quiet.refl s⟩
    have hwait : v = (u.idleTx n).waitingReset n := by
      have hmark : ((u.idleTx n).line n).resetWaiting = (s.line n).resetWaiting := by
        rw [State.resetWaiting_idleTx, State.line_congr hsame.1]
      rw [hv, State.waitingReset, hmark]
      rfl
    have hend : (u.idleTx n).afterIdle n = t := by
      rw [State.idleTx_of_last hr hothers hsame, ← hwait, ht]
      rfl
    rw [exec_resetPeriodEnd_of_last ho hr (State.busyLines_eq_singleton hn hothers), exec_transmitEnd ho,
      exec_stoppingEnd ho]
    have hfalse : t.resetting = false := by
      rw [← hend, State.idleTx_of_last hr hothers hsame, State.endPeriod_resetting]
    cases htx : (s.line n).tx with
    | idle => exact absurd htx hn
    | sending f h p =>
      have hframe : s.transmitEnd n = t := by
        rw [State.transmitEnd_of_sending htx, ← hend, hu, htx]
      rw [State.txEnd_of_sending htx, hframe]
      exact ⟨rfl, hfalse, fun _ _ _ _ => rfl, nofun⟩
    | stopping f p =>
      have hframe : s.stoppingEnd n = t := by
        rw [State.stoppingEnd_of_stopping htx, ← hend, hu, htx]
      rw [State.txEnd_of_stopping htx, hframe]
      exact ⟨rfl, hfalse, nofun, fun _ _ _ => rfl⟩
  · obtain ⟨hlines, hquiet⟩ := s.presentHandle_same h
    rw [exec_transmitEnd ho, State.transmitEnd_of_sending htx, ← hu, State.afterIdle_of_busy (m := m)]
    · rfl
    · exact (hu ▸ hquiet.rest.resetting).trans hr
    · rw [State.resetWaiting_idleTx, hu, State.line_congr hlines, hw]
    · rw [State.tx_idleTx, if_neg hm, hu, State.line_congr hlines]
      exact hbusy
  · rw [exec_stoppingEnd ho, State.stoppingEnd_of_stopping htx, State.afterIdle_of_busy (m := m)]
    · rfl
    · exact hr
    · rw [State.resetWaiting_idleTx, hw]
    · rw [State.tx_idleTx, if_neg hm]
      exact hbusy

end Sys2Proof.Machine
end

section
/-!
The arbiter's choice, who is eligible and which sequence a dispatch takes (R71, R89, R90, R92).
-/

namespace Sys2Proof.Machine

/-! ### Eligibility (R50, R70, R89) -/

theorem State.windowRoom_iff (s : State) (st : StationIdx) : s.windowRoom st = true ↔
    ∃ w, (s.entry st).window = some w ∧ s.heldCount st < min w s.params.windowLimit[(lineOf st).val] := by
  unfold State.windowRoom State.effectiveWindow
  cases (s.entry st).window <;> simp

/-- Every sequence stands in the order in which an allocation examines them (R71). -/
theorem mem_searchOrder (cursor q : SeqNo) : q ∈ searchOrder cursor :=
  List.mem_map.mpr ⟨q - cursor, List.mem_finRange _, add_sub_cancel cursor q⟩

theorem State.firstFree_isSome_iff (s : State) (st : StationIdx) :
    (s.firstFree st).isSome = true ↔ ∃ q, s.seqFree st q = true := by
  rw [State.firstFree, List.find?_isSome]
  exact ⟨fun ⟨q, _, hq⟩ => ⟨q, hq⟩, fun ⟨q, hq⟩ => ⟨q, mem_searchOrder _ q, hq⟩⟩

theorem State.eligible_iff (s : State) (n : LineNo) (h : Handle) : s.eligible n h = true ↔
    (s.line n).link = .up ∧ (s.line n).service = .opened ∧ ((s.record h.index).seq.isSome = true ∨
      (s.windowRoom (s.record h.index).station = true ∧ ∃ q, s.seqFree (s.record h.index).station q = true)) := by
  simp only [State.eligible, Bool.and_eq_true, Bool.or_eq_true, beq_iff_eq, State.firstFree_isSome_iff, and_assoc]

/-! ### The sequence of a dispatch (R71) -/

/-- The first place in the list of all of them at which a condition holds. -/
theorem find?_finRange_eq_some {m : Nat} {p : Fin m → Bool} {k : Fin m} (hk : p k = true)
    (hbefore : ∀ j, j < k → p j = false) : (List.finRange m).find? p = some k := by
  rw [List.find?_eq_some_iff_getElem]
  refine ⟨hk, k.val, by simp, by simp, fun j hj => ?_⟩
  rw [List.getElem_finRange, hbefore _ hj]
  rfl

/-- The sequence that an allocation takes: the first free one from the cursor (R71). -/
theorem State.firstFree_eq_some {s : State} {st : StationIdx} {k : Fin 16}
    (hk : s.seqFree st ((s.entry st).cursor + k) = true)
    (hbefore : ∀ j, j < k → s.seqFree st ((s.entry st).cursor + j) = false) :
    s.firstFree st = some ((s.entry st).cursor + k) := by
  have hfind : (List.finRange 16).find? (s.seqFree st ∘ ((s.entry st).cursor + ·)) = some k :=
    find?_finRange_eq_some hk hbefore
  rw [State.firstFree, searchOrder, List.find?_map, hfind]
  rfl

/-! ### What a dispatch comes to (R11, R85, R92) -/

/-- The frame of a record that is dispatched, as the line's transmitter begins it (R92, R99). -/
def State.requestTx (s : State) (n : LineNo) (h : Handle) (q : SeqNo) : Tx :=
  .sending ((s.record h.index).requestFrame q) (some (s.handleOf h.index))
    { char := 0, elapsed := 0, bitTime := s.params.lineRate[n.val] }

/-- A dispatch changes the record, and its line's queue and transmitter. -/
theorem State.dispatchWith_eq {s : State} {n : LineNo} {h : Handle} (hl : (s.record h.index).line = n) (q : SeqNo) :
    s.dispatchWith n h q = (s.setRecord h.index ((s.record h.index).dispatched q)).setLine n { s.line n with
      dispatchQ := (s.line n).dispatchQ.filter (fun g => g.index != h.index), tx := s.requestTx n h q } := by
  have hgen : (((s.leaveDispatch h.index).setRecord h.index ((s.record h.index).dispatched q)).handleOf h.index) =
      s.handleOf h.index := by
    rw [State.handleOf, State.record_setRecord_self]
    rfl
  have hcomm : (s.leaveDispatch h.index).setRecord h.index ((s.record h.index).dispatched q) =
      (s.setRecord h.index ((s.record h.index).dispatched q)).setLine n { s.line n with
        dispatchQ := (s.line n).dispatchQ.filter (fun g => g.index != h.index) } := by
    rw [State.leaveDispatch, hl]
    rfl
  show ((s.leaveDispatch h.index).setRecord h.index ((s.record h.index).dispatched q)).startFrame n _ (some
    (((s.leaveDispatch h.index).setRecord h.index ((s.record h.index).dispatched q)).handleOf h.index)) = _
  rw [hgen, hcomm, State.startFrame, State.setLine_twice, State.line_setLine_self]
  rfl

/-- The sequence that a record holds, or the first free one, and the cursor that has moved past it (R71). -/
theorem State.dispatch_eq {s : State} {n : LineNo} {h : Handle} (he : s.eligible n h = true) :
    (∃ q, (s.record h.index).seq = some q ∧ s.dispatch n h = s.dispatchWith n h q) ∨
    (∃ q, (s.record h.index).seq = none ∧ s.firstFree (s.record h.index).station = some q ∧
      s.dispatch n h = (s.setEntry (s.record h.index).station
        { s.entry (s.record h.index).station with cursor := q + 1 }).dispatchWith n h q) := by
  unfold State.dispatch
  cases hq : (s.record h.index).seq with
  | some q => exact .inl ⟨q, rfl, rfl⟩
  | none =>
    obtain ⟨-, -, hseq | ⟨-, hfree⟩⟩ := (s.eligible_iff n h).mp he
    · rw [hq] at hseq
      cases hseq
    · obtain ⟨q, hq⟩ := Option.isSome_iff_exists.mp ((s.firstFree_isSome_iff _).mpr hfree)
      exact .inr ⟨q, rfl, hq, by rw [hq]⟩

/-! ### The choice (R90) -/

theorem State.choose_control {s : State} {n : LineNo} {c : ControlFrame} {rest : List ControlFrame}
    (hi : (s.line n).tx = .idle ∧ (s.line n).resetWaiting = false ∧ s.resetting = false)
    (hc : (s.line n).controlQ = c :: rest) :
    s.choose n = (s.setLine n { s.line n with controlQ := rest }).startFrame n c.frame none := by
  rw [State.choose, if_pos hi, hc]

theorem State.choose_dispatch {s : State} {n : LineNo}
    (hi : (s.line n).tx = .idle ∧ (s.line n).resetWaiting = false ∧ s.resetting = false)
    (hc : (s.line n).controlQ = []) :
    s.choose n = ((s.line n).dispatchQ.find? (s.eligible n)).elim s (s.dispatch n) := by
  rw [State.choose, if_pos hi, hc]
  cases (s.line n).dispatchQ.find? (s.eligible n) <;> rfl

/-- The first eligible record is the one that those before it are not. -/
theorem find?_append_cons {α : Type} {p : α → Bool} {before after : List α} {a : α} (hb : ∀ b ∈ before, p b = false)
    (ha : p a = true) : (before ++ a :: after).find? p = some a := by
  rw [List.find?_append, List.find?_eq_none.mpr fun b h => by rw [hb b h]; exact nofun, List.find?_cons_of_pos ha]
  rfl

/-- A record leaves the queue from between those before and those after it (R85). -/
theorem filter_index_ne {before after : List Handle} {h : Handle} (hb : ∀ g ∈ before, g.index ≠ h.index)
    (ha : ∀ g ∈ after, g.index ≠ h.index) :
    (before ++ h :: after).filter (fun g => g.index != h.index) = before ++ after := by
  rw [List.filter_append, List.filter_cons_of_neg (by simp), List.filter_eq_self.mpr, List.filter_eq_self.mpr]
  · exact fun g hg => bne_iff_ne.mpr (ha g hg)
  · exact fun g hg => bne_iff_ne.mpr (hb g hg)

/-- Settles O39: by the queue that the choice is made from, and by whether the record holds a sequence. -/
theorem arbiterChoice : Obligations.ArbiterChoice := by
  refine fun s n => ⟨State.choose_of_busy n s, fun h => ?_, fun htx hw hr => ⟨fun c rest hc => ?_, fun hc =>
    ⟨fun hnone => ?_, fun before h after hqueue hbefore he hafter hline => ?_⟩⟩⟩
  · rw [State.eligible_iff, State.windowRoom_iff]
  · rw [State.choose_control ⟨htx, hw, hr⟩ hc, State.startFrame, State.setLine_twice, State.line_setLine_self]
    rfl
  · rw [State.choose_dispatch ⟨htx, hw, hr⟩ hc, List.find?_eq_none.mpr fun h hh => by rw [hnone h hh]; exact nofun]
    rfl
  · have hleave := filter_index_ne (fun g hg => (hbefore g hg).2) hafter
    rw [State.choose_dispatch ⟨htx, hw, hr⟩ hc, hqueue, find?_append_cons (fun g hg => (hbefore g hg).1) he]
    show ∃ q, _ ∧ _ ∧ s.dispatch n h = _
    rcases State.dispatch_eq he with ⟨q, hq, hd⟩ | ⟨q, hq, hfree, hd⟩
    · refine ⟨q, fun p hp => Option.some.inj (hq.symm.trans hp), fun hnone => ?_, ?_⟩
      · rw [hq] at hnone
        cases hnone
      · rw [hd, State.dispatchWith_eq hline, hqueue, hleave, hq]
        rfl
    · refine ⟨q, fun p hp => ?_, fun _ k hk hj => ?_, ?_⟩
      · rw [hq] at hp
        cases hp
      · exact Option.some.inj (hfree.symm.trans (State.firstFree_eq_some hk hj))
      · have hline' : ((s.setEntry (s.record h.index).station
            { s.entry (s.record h.index).station with cursor := q + 1 }).record h.index).line = n := hline
        rw [hd, State.dispatchWith_eq hline', State.line_setEntry, hqueue, hleave, hq]
        rfl

end Sys2Proof.Machine
end

section
/-!
One period of the reference clock, and when the events of a line and the tick are due (R93, R95, R99, R100, R103 to
R106, R110, R112, R113, R117, R118).
-/

namespace Sys2Proof.Machine

/-! ### One period (R99, R100, R103, R110, R118) -/

theorem State.clockPeriod_of_operating {s : State} (ho : s.operating = true) : s.clockPeriod =
    { s.mapLines (fun n l => l.period s.pins.rxdMark[n.val] s.params.lineRate[n.val]) with
      tickPhase := s.tickPhase + 1 } := if_pos ho

theorem State.line_clockPeriod {s : State} (ho : s.operating = true) (n : LineNo) :
    s.clockPeriod.line n = (s.line n).period s.pins.rxdMark[n.val] s.params.lineRate[n.val] := by
  have hlines : s.clockPeriod.lines =
      (s.mapLines fun n l => l.period s.pins.rxdMark[n.val] s.params.lineRate[n.val]).lines := by
    rw [State.clockPeriod_of_operating ho]
  rw [State.line_congr hlines, State.line_mapLines]

/-- The idle measure of an UP line after a period (R104, R105). -/
theorem Line.quietPeriod_eq (l : Line) (mark : Bool) : l.quietPeriod mark =
    if mark = true ∧ l.phase = .none then l.quiet + 1 else if mark = false ∧ l.rx = .discarding then 0 else l.quiet := by
  cases mark <;> simp [Line.quietPeriod]

/-- What a period changes in a line, by its link (R110). -/
theorem Line.period_eq (l : Line) (mark : Bool) (rate : Nat) : l.period mark rate =
    { l with
      tx := l.tx.period, phase := if l.link = .up then l.phase.period mark rate else l.phase
      markRun := if l.link = .down then (if mark then l.markRun + 1 else 0) else l.markRun
      spaceRun := if l.link = .up then (if mark then 0 else l.spaceRun + 1) else l.spaceRun
      quiet :=
        if l.link = .up ∧ mark = true ∧ l.phase = .none then l.quiet + 1
        else if l.link = .up ∧ mark = false ∧ l.rx = .discarding then 0 else l.quiet } := by
  unfold Line.period
  cases hl : l.link with
  | off => simp
  | down => simp
  | up => simp [Line.quietPeriod_eq]

/-! ### The character being sampled (R100) -/

theorem CharPhase.period_waiting {k w : Nat} (d : Byte) (mark : Bool) (rate : Nat) (hw : 1 < w) :
    (CharPhase.bits k w d).period mark rate = .bits k (w - 1) d := if_neg (Nat.not_le.mpr hw)

theorem CharPhase.period_sampled (k : Nat) (d : Byte) (mark : Bool) (rate : Nat) :
    (CharPhase.bits k 1 d).period mark rate = sampleBit k d mark rate := by
  rw [CharPhase.period, if_pos (Nat.le_refl 1)]

theorem getLsbD_one_shiftLeft (k : Fin 8) (j : Nat) : (1#8 <<< k.val).getLsbD j = decide (j = k.val) := by
  rw [← BitVec.twoPow_eq, BitVec.getLsbD_twoPow, Bool.eq_iff_iff]
  simp only [Bool.and_eq_true, decide_eq_true_eq]
  omega

/-- A sampled data bit sets its own place to the level of RXD, and no other (R100). -/
theorem sampleBit_data (k : Fin 8) (d : Byte) (mark : Bool) (rate : Nat) :
    ∃ b, sampleBit (k.val + 1) d mark rate = .bits (k.val + 2) rate b ∧
      b.getLsbD k.val = (d.getLsbD k.val || mark) ∧ ∀ j, j ≠ k.val → b.getLsbD j = d.getLsbD j := by
  have hdata : sampleBit (k.val + 1) d mark rate =
      .bits (k.val + 2) rate (if mark then d ||| (1#8 <<< k.val) else d) := by
    rw [sampleBit, if_neg (Nat.succ_ne_zero _), if_pos (show k.val + 1 ≤ 8 from k.isLt)]
    rfl
  refine ⟨_, hdata, ?_⟩
  cases mark with
  | false => simp
  | true =>
    simp only [if_true, BitVec.getLsbD_or, getLsbD_one_shiftLeft]
    exact ⟨by simp, fun j hj => by simp [hj]⟩

/-! ### The place of a transmitter in its frame (R93, R95, R103) -/

theorem TxPos.period_within {c : TxPos} (chars : Nat) (h : c.elapsed + 1 < 10 * c.bitTime) :
    c.period chars = { c with elapsed := c.elapsed + 1 } := if_pos h

theorem TxPos.period_next {c : TxPos} {chars : Nat} (h : 10 * c.bitTime ≤ c.elapsed + 1) (hc : c.char + 1 < chars) :
    c.period chars = { c with char := c.char + 1, elapsed := 0 } := by
  rw [TxPos.period, if_neg (Nat.not_lt.mpr h), if_pos hc]

theorem TxPos.period_last {c : TxPos} {chars : Nat} (h : 10 * c.bitTime ≤ c.elapsed + 1) (hc : chars ≤ c.char + 1) :
    c.period chars = { c with elapsed := c.elapsed + 1 } := by
  rw [TxPos.period, if_neg (Nat.not_lt.mpr h), if_neg (Nat.not_lt.mpr hc)]

/-- A frame has 7 + L characters (R101, R103). -/
theorem Tx.period_sending (f : Frame) (h : Option Handle) (c : TxPos) :
    (Tx.sending f h c).period = .sending f h (c.period (7 + f.payload.length)) := by
  have hchars : f.header.length + f.payload.length + 3 = 7 + f.payload.length := by
    simp only [Frame.header, List.length_cons, List.length_nil]
    omega
  rw [Tx.period, hchars]

/-! ### The events of a line (R93, R95, R100, R104, R105, R112, R113) -/

/-- The events of line `n` that its runs, its receiver and its transmitter cause. -/
def lineEvents (n : LineNo) (b : Byte) : List Instr :=
  [.linkUp n, .linkDown n, .goodCharacter n b, .charError n, .receiveGapExpiry n, .discardIdleEnd n, .transmitEnd n,
    .stoppingEnd n]

theorem State.dueLine_line {s : State} {n m : LineNo} {b : Byte} {c : Instr} (hc : c ∈ lineEvents n b)
    (h : c ∈ s.dueLine m) : m = n := by
  obtain ⟨b', hb⟩ := State.mem_dueLine h
  simp only [lineEvents, List.mem_cons, List.not_mem_nil, or_false] at hc hb
  rcases hc with rfl | rfl | rfl | rfl | rfl | rfl | rfl | rfl <;> simp at hb
  all_goals simp [hb]

/-- An event of a line's own can only be due among that line's. -/
theorem State.mem_due_of_line {s : State} (ho : s.operating = true) {n : LineNo} {b : Byte} {c : Instr}
    (hc : c ∈ lineEvents n b) : c ∈ s.due ↔ c ∈ s.dueLine n := by
  rw [State.mem_due ho]
  refine ⟨?_, fun h => .inr (.inl ⟨n, h⟩)⟩
  rintro (⟨-, rfl⟩ | ⟨m, hm⟩ | ⟨r, hr⟩ | ⟨st, hst⟩ | ⟨-, rfl⟩)
  · simp [lineEvents] at hc
  · exact State.dueLine_line hc hm ▸ hm
  · simp only [State.dueRecord, List.mem_append, mem_dueIf] at hr
    rcases hr with (⟨-, rfl⟩ | ⟨-, rfl⟩) | ⟨-, rfl⟩ <;> simp [lineEvents] at hc
  · simp only [State.dueStation, List.mem_append, mem_dueIf] at hst
    rcases hst with ⟨-, rfl⟩ | ⟨-, rfl⟩ <;> simp [lineEvents] at hc
  · simp [lineEvents] at hc

theorem State.mem_due_tick {s : State} (ho : s.operating = true) : .tick ∈ s.due ↔ s.tickLength ≤ s.tickPhase := by
  rw [State.mem_due ho]
  refine ⟨?_, fun h => .inl ⟨h, rfl⟩⟩
  rintro (⟨h, -⟩ | ⟨m, hm⟩ | ⟨r, hr⟩ | ⟨st, hst⟩ | ⟨-, h⟩)
  · exact h
  · obtain ⟨b, hb⟩ := State.mem_dueLine hm
    simp at hb
  · simp [State.dueRecord] at hr
  · simp [State.dueStation] at hst
  · cases h

theorem State.mem_dueLink (s : State) (n : LineNo) (c : Instr) : c ∈ s.dueLink n ↔
    ((s.line n).link = .down ∧ 40 * s.params.lineRate[n.val] ≤ (s.line n).markRun ∧ c = .linkUp n) ∨
    ((s.line n).link = .up ∧ 20 * s.params.lineRate[n.val] ≤ (s.line n).spaceRun ∧ c = .linkDown n) := by
  simp only [State.dueLink, List.mem_append, mem_dueIf, Bool.and_eq_true, beq_iff_eq, State.markReached,
    State.spaceReached, decide_eq_true_eq, and_assoc]

theorem State.mem_dueChar {s : State} (ho : s.operating = true) (n : LineNo) (c : Instr) : c ∈ s.dueChar n ↔
    (s.line n).link = .up ∧ ((∃ d, (s.line n).phase = .complete d true ∧ c = .goodCharacter n d) ∨
      ((∃ d, (s.line n).phase = .complete d false) ∧ c = .charError n)) := by
  have hforming : s.forming n = true ↔ (s.line n).link = .up := by simp [State.forming, ho]
  unfold State.dueChar
  split
  · next d hd => simp [hd, hforming]
  · next d hd => simp [hd, hforming]
  all_goals next hd => simp [hd]

theorem State.mem_dueIdle {s : State} (ho : s.operating = true) (n : LineNo) (c : Instr) : c ∈ s.dueIdle n ↔
    ((s.line n).link = .up ∧ s.pins.rxdMark[n.val] = true ∧ (s.line n).phase = .none ∧
      20 * s.params.lineRate[n.val] < (s.line n).quiet) ∧
    (((∃ bs, (s.line n).rx = .assembling bs) ∧ c = .receiveGapExpiry n) ∨
      ((s.line n).rx = .discarding ∧ s.resetting = false ∧ c = .discardIdleEnd n)) := by
  have hidle : (s.forming n && s.rxdIdle n && decide (20 * s.params.lineRate[n.val] < (s.line n).quiet)) = true ↔
      (s.line n).link = .up ∧ s.pins.rxdMark[n.val] = true ∧ (s.line n).phase = .none ∧
        20 * s.params.lineRate[n.val] < (s.line n).quiet := by
    simp only [State.forming, State.rxdIdle, ho, Bool.true_and, Bool.and_eq_true, beq_iff_eq, decide_eq_true_eq, and_assoc]
  unfold State.dueIdle
  split
  · next h =>
    rw [and_iff_right (hidle.mp h)]
    cases (s.line n).rx <;> simp
  · next h => exact ⟨nofun, fun hc => absurd (hidle.mpr hc.1) h⟩

theorem State.mem_dueTx (s : State) (n : LineNo) (c : Instr) : c ∈ s.dueTx n ↔
    ((∃ f h p, (s.line n).tx = .sending f h p ∧ 10 * p.bitTime ≤ p.elapsed) ∧ c = .transmitEnd n) ∨
    ((∃ f p, (s.line n).tx = .stopping f p ∧ 10 * p.bitTime ≤ p.elapsed) ∧ c = .stoppingEnd n) := by
  unfold State.dueTx
  cases (s.line n).tx <;> simp

/-- The events of a line, one list after the other. -/
theorem State.mem_dueLine_iff (s : State) (n : LineNo) (c : Instr) : c ∈ s.dueLine n ↔
    c ∈ s.dueLink n ∨ c ∈ s.dueChar n ∨ c ∈ s.dueIdle n ∨ c ∈ s.dueTx n ∨ c ∈ s.dueQuiesce n := by
  simp only [State.dueLine, List.mem_append, or_assoc]

/-- The quiesce deadline is none of the events of a line's link, receiver and transmitter. -/
theorem State.not_mem_dueQuiesce {s : State} {n m : LineNo} {b : Byte} {c : Instr} (hc : c ∈ lineEvents n b) :
    c ∉ s.dueQuiesce m := by
  unfold State.dueQuiesce
  split
  · exact List.not_mem_nil
  · rw [mem_dueIf]
    rintro ⟨-, rfl⟩
    simp [lineEvents] at hc

/-- When an event of a line's own is due, by the part of the line that causes it. -/
theorem State.mem_due_line_iff {s : State} (ho : s.operating = true) {n : LineNo} {b : Byte} {c : Instr}
    (hc : c ∈ lineEvents n b) :
    c ∈ s.due ↔ c ∈ s.dueLink n ∨ c ∈ s.dueChar n ∨ c ∈ s.dueIdle n ∨ c ∈ s.dueTx n := by
  rw [State.mem_due_of_line ho hc, State.mem_dueLine_iff, or_iff_left (State.not_mem_dueQuiesce hc)]

/-- Settles O50: a period by the parts of a line, and each event by the part that causes it. -/
theorem clockPeriod : Obligations.ClockPeriod := by
  rintro s n l rate mark ho rfl rfl rfl
  have hevent : ∀ {b : Byte} {c : Instr}, c ∈ lineEvents n b →
      (c ∈ s.due ↔ c ∈ s.dueLink n ∨ c ∈ s.dueChar n ∨ c ∈ s.dueIdle n ∨ c ∈ s.dueTx n) := State.mem_due_line_iff ho
  have hphase : (s.line n).link = .up → ∀ p : CharPhase, (s.line n).phase = p →
      (if (s.line n).link = .up then (s.line n).phase.period s.pins.rxdMark[n.val] s.params.lineRate[n.val]
        else (s.line n).phase) = p.period s.pins.rxdMark[n.val] s.params.lineRate[n.val] :=
    fun hl p hp => by rw [if_pos hl, hp]
  refine ⟨by rw [State.clockPeriod_of_operating ho], by rw [State.clockPeriod_of_operating ho]; rfl,
    ⟨_, _, (State.line_clockPeriod ho n).trans (Line.period_eq _ _ _), fun hl => if_neg hl, fun hl => ?_, fun hi => ?_,
      fun f h c hs => ?_, fun f c hs => ?_⟩, ?_, ?_, fun b => ?character, ?_, ?_, ?_, ?_, ?_,
    State.mem_due_tick ho⟩
  · refine ⟨fun h => hphase hl _ h, fun h => hphase hl _ h, fun k w d h hw => ?_, fun d h => ?_, fun k d h => ?_,
      fun d h => ?_, fun d m h => hphase hl _ h⟩
    · rw [hphase hl _ h, CharPhase.period_waiting d _ _ hw]
    · rw [hphase hl _ h, CharPhase.period_sampled]
      rfl
    · rw [hphase hl _ h, CharPhase.period_sampled]
      exact sampleBit_data k d _ _
    · rw [hphase hl _ h, CharPhase.period_sampled]
      rfl
  · rw [hi]
    rfl
  · rw [hs, Tx.period_sending]
    exact ⟨fun h1 => by rw [TxPos.period_within _ h1], fun h1 h2 => by rw [TxPos.period_next h1 h2],
      fun h1 h2 => by rw [TxPos.period_last h1 h2]⟩
  · rw [hs]
    rfl
  case character =>
    rw [hevent (b := b) (by simp [lineEvents]), State.mem_dueLink, State.mem_dueChar ho, State.mem_dueIdle ho,
      State.mem_dueTx]
    simp
  all_goals
    rw [hevent (b := 0#8) (by simp [lineEvents]), State.mem_dueLink, State.mem_dueChar ho, State.mem_dueIdle ho,
      State.mem_dueTx]
    simp [and_assoc]

end Sys2Proof.Machine
end

section
/-!
The line service's tests at the end of an event, and the return to DRAINING (R87, R91, R162, R163, R165, R167).
-/

namespace Sys2Proof.Machine

/-! ### What the offers of control frames come to (R86, R87) -/

/-- Control frames reported as CONTROL_DROPPED, in their order (R87). -/
def State.dropAll (n : LineNo) (cs : List ControlFrame) (s : State) : State :=
  cs.foldl (fun u c => u.report (droppedOf n c)) s

/-- What the reports come to depends on the error classes and the fault account alone (R173). -/
theorem State.dropAll_faults_congr {s t : State} (hp : t.params = s.params) (hf : t.faults = s.faults) (n : LineNo)
    (cs : List ControlFrame) : (t.dropAll n cs).faults = (s.dropAll n cs).faults := by
  induction cs generalizing s t with
  | nil => exact hf
  | cons c cs ih => exact ih (by exact hp) (by simp only [State.report, hp, hf])

theorem State.offerAll_line_ne {n m : LineNo} (hm : m ≠ n) (cs : List ControlFrame) (s : State) :
    (s.offerAll n cs).line m = s.line m :=
  State.foldl_keeps (fun u : State => u.line m) _ (fun _ c => State.offer_line_ne hm c _) cs s

/-- On an UP line the frames that find room join the control queue, and each of the others is reported (R86, R87). -/
theorem State.offerAll_of_up {n : LineNo} (cs : List ControlFrame) {s : State} (hup : (s.line n).link = .up) :
    (s.offerAll n cs).line n = { s.line n with
      controlQ := (s.line n).controlQ ++ cs.take (Config.controlCapacity - (s.line n).controlQ.length) } ∧
    (s.offerAll n cs).faults = (s.dropAll n (cs.drop (Config.controlCapacity - (s.line n).controlQ.length))).faults := by
  induction cs generalizing s with
  | nil =>
    rw [List.take_nil, List.append_nil, List.drop_nil]
    exact ⟨rfl, rfl⟩
  | cons c cs ih =>
    have hcons : s.offerAll n (c :: cs) = (s.offer n c).offerAll n cs := rfl
    rw [hcons]
    rcases State.offer_cases n c s with ⟨-, hroom, ho⟩ | ⟨-, hfull, ho⟩ | ⟨hdown, -⟩
    · obtain ⟨k, hk⟩ : ∃ k, Config.controlCapacity - (s.line n).controlQ.length = k + 1 :=
        Nat.exists_eq_succ_of_ne_zero (Nat.sub_ne_zero_of_lt hroom)
      have hleft : Config.controlCapacity - ((s.line n).controlQ ++ [c]).length = k := by
        rw [List.length_append, List.length_singleton]
        omega
      have hline : (s.offer n c).line n = { s.line n with controlQ := (s.line n).controlQ ++ [c] } := by
        rw [ho, State.line_setLine_self]
      obtain ⟨h1, h2⟩ := ih (s := s.offer n c) (by rw [hline]; exact hup)
      rw [hline, hleft] at h1 h2
      refine ⟨?_, ?_⟩
      · rw [h1, hk, List.take_succ_cons, List.append_assoc]
        rfl
      · rw [h2, hk, List.drop_succ_cons]
        exact State.dropAll_faults_congr (s.quiet_offer n c).rest.params (by rw [ho]; rfl) n _
    · have hnone : Config.controlCapacity - (s.line n).controlQ.length = 0 := by omega
      have hline : (s.offer n c).line n = s.line n := by rw [ho, State.line_report]
      obtain ⟨h1, h2⟩ := ih (s := s.offer n c) (by rw [hline]; exact hup)
      rw [hline, hnone] at h1 h2
      refine ⟨?_, ?_⟩
      · rw [h1, hnone]
        rfl
      · rw [h2, hnone, ho]
        rfl
    · exact absurd hup hdown

/-! ### The tests (R162, R165) -/

theorem State.drained_iff (s : State) (n : LineNo) : s.drained n = true ↔
    ∀ r, (s.record r).state.inFlight = true → (s.record r).line ≠ n := by
  rw [State.drained, State.records_toList]
  simp only [List.all_map, List.all_eq_true, List.mem_finRange, true_implies, Function.comp_apply, Bool.not_eq_true',
    ← Bool.not_eq_true, Bool.and_eq_true, beq_iff_eq, not_and, ne_eq]

theorem State.testDrain_of_not {s : State} {n : LineNo} (h : (s.line n).service ≠ .draining ∨ s.drained n = false) :
    s.testDrain n = s := by
  refine if_neg fun ⟨hs, hd⟩ => ?_
  rcases h with h | h
  · exact h hs
  · rw [hd] at h
    cases h

theorem State.testAcks_of_not_awaiting {s : State} {n : LineNo} (h : (s.line n).service ≠ .awaitingAcks) :
    s.testAcks n = s := if_neg fun hs => h hs.1

theorem State.testAcks_of_missing {s : State} {n : LineNo} (h : ¬ s.allAcked n = true) : s.testAcks n = s :=
  if_neg fun hs => h hs.2

theorem State.testAcks_of_all {s : State} {n : LineNo} (hs : (s.line n).service = .awaitingAcks)
    (h : s.allAcked n = true) : s.testAcks n = s.enterQuiesced n .allAcked := if_pos ⟨hs, h⟩

/-- A wait that has been tested once has nothing left to test. -/
theorem State.testAcks_twice (n : LineNo) (s : State) : (s.testAcks n).testAcks n = s.testAcks n := by
  by_cases h : (s.line n).service = .awaitingAcks ∧ s.allAcked n = true
  · rw [State.testAcks_of_all h.1 h.2, State.testAcks_of_not_awaiting]
    rw [State.enterQuiesced, State.line_setLine_self]
    exact nofun
  · have hs : s.testAcks n = s := if_neg h
    rw [hs, hs]

theorem State.testAcks_line_ne {n m : LineNo} (hm : m ≠ n) (s : State) : (s.testAcks n).line m = s.line m := by
  unfold State.testAcks
  split
  · exact State.line_setLine_ne s hm _
  · rfl

/-! ### Entry into AWAITING_ACKS (R163) -/

/-- The line that begins to await acknowledgements, its marks cleared and its deadline started (R163). -/
def State.awaiting (n : LineNo) (s : State) : State :=
  (s.mapLineEntries n (fun e => { e with ackMark := false })).setLine n { s.line n with
    service := .awaitingAcks, quiesceDeadline := some (s.after s.params.quiesceDeadline) }

theorem State.line_awaiting (n : LineNo) (s : State) : (s.awaiting n).line n = { s.line n with
    service := .awaitingAcks, quiesceDeadline := some (s.after s.params.quiesceDeadline) } := by
  rw [State.awaiting, State.line_setLine_self]

theorem State.line_awaiting_ne {n m : LineNo} (hm : m ≠ n) (s : State) : (s.awaiting n).line m = s.line m := by
  rw [State.awaiting, State.line_setLine_ne _ hm, State.line_mapLineEntries]

theorem State.entry_awaiting (n : LineNo) (s : State) (st : StationIdx) : (s.awaiting n).entry st =
    if lineOf st = n then { s.entry st with ackMark := false } else s.entry st := by
  rw [State.awaiting, State.entry_setLine, State.entry_mapLineEntries]

theorem State.quiet_awaiting (n : LineNo) (s : State) : s.Quiet (s.awaiting n) :=
  (s.quiet_mapLineEntries n _).trans (State.quiet_setLine _ n _)

theorem State.awaiting_faults (n : LineNo) (s : State) : (s.awaiting n).faults = s.faults := by
  rw [State.awaiting, State.setLine_faults, State.mapLineEntries, State.mapEntries_faults]

theorem State.presentDrops_awaiting (n : LineNo) (s : State) : (s.awaiting n).presentDrops n = s.presentDrops n := by
  refine List.filter_congr fun d _ => ?_
  rw [State.entry_awaiting, if_pos (lineOf_stationAt n d)]

/-- The QUIESCE frames to the PRESENT stations, in ascending drop order (R163). -/
def State.quiesceFrames (s : State) (n : LineNo) : List ControlFrame := (s.presentDrops n).map .quiesce

theorem State.enterAwaiting_eq (n : LineNo) (s : State) :
    s.enterAwaiting n = ((s.awaiting n).offerAll n (s.quiesceFrames n)).testAcks n := by
  have hquiet := (s.quiet_mapLineEntries n (fun e => { e with ackMark := false })).rest
  rw [State.quiesceFrames, ← State.presentDrops_awaiting]
  simp only [State.enterAwaiting, State.awaiting, State.line_mapLineEntries, State.after, hquiet.tick, hquiet.params]

/-- What the tests do to a DRAINING line that has drained (R162, R163, R165). -/
theorem State.serviceTests_of_drained {s : State} {n : LineNo} (hs : (s.line n).service = .draining)
    (hd : s.drained n = true) :
    s.serviceTests n = ((s.awaiting n).offerAll n (s.quiesceFrames n)).testAcks n := by
  have hdrain : s.testDrain n = s.enterAwaiting n := if_pos ⟨hs, hd⟩
  rw [State.serviceTests, hdrain, State.enterAwaiting_eq, State.testAcks_twice]

/-- The marks have just been cleared, so the wait is over at once only without a PRESENT station (R165). -/
theorem State.allAcked_offered (n : LineNo) (cs : List ControlFrame) (s : State) :
    ((s.awaiting n).offerAll n cs).allAcked n = true ↔ s.presentDrops n = [] := by
  rw [State.allAcked_iff, State.presentDrops, List.filter_eq_nil_iff]
  refine forall_congr' fun d => ?_
  rw [State.entry_congr (State.offerAll_stations n cs _), State.entry_awaiting, if_pos (lineOf_stationAt n d)]
  simp

theorem State.service_offered (n : LineNo) (cs : List ControlFrame) (s : State) :
    (((s.awaiting n).offerAll n cs).line n).service = .awaitingAcks := by
  by_cases hup : ((s.awaiting n).line n).link = .up
  · rw [(State.offerAll_of_up cs hup).1, State.line_awaiting]
  · rw [State.offerAll_of_not_up hup, State.line_awaiting]

/-- Without PRESENT stations the line is QUIESCED at once (R165). -/
theorem State.serviceTests_of_no_present {s : State} {n : LineNo} (hs : (s.line n).service = .draining)
    (hd : s.drained n = true) (hp : s.presentDrops n = []) :
    s.serviceTests n = (s.awaiting n).enterQuiesced n .allAcked := by
  have hacked := (State.allAcked_offered n (s.quiesceFrames n) s).mpr hp
  rw [State.serviceTests_of_drained hs hd, State.testAcks_of_all (State.service_offered n _ s) hacked,
    State.quiesceFrames, hp]
  rfl

/-- With PRESENT stations the line awaits their acknowledgements (R163). -/
theorem State.serviceTests_of_present {s : State} {n : LineNo} (hs : (s.line n).service = .draining)
    (hd : s.drained n = true) (hp : s.presentDrops n ≠ []) :
    s.serviceTests n = (s.awaiting n).offerAll n (s.quiesceFrames n) := by
  rw [State.serviceTests_of_drained hs hd, State.testAcks_of_missing]
  rwa [State.allAcked_offered]

/-! ### The tests by the state of the line service -/

theorem State.serviceTests_of_idle {s : State} {n : LineNo}
    (h : (s.line n).service = .opened ∨ (s.line n).service = .quiesced) : s.serviceTests n = s := by
  have hd : (s.line n).service ≠ .draining := by rcases h with h | h <;> rw [h] <;> exact nofun
  have ha : (s.line n).service ≠ .awaitingAcks := by rcases h with h | h <;> rw [h] <;> exact nofun
  rw [State.serviceTests, State.testDrain_of_not (.inl hd), State.testAcks_of_not_awaiting ha]

theorem State.serviceTests_of_awaiting {s : State} {n : LineNo} (h : (s.line n).service = .awaitingAcks) :
    s.serviceTests n = s.testAcks n := by
  rw [State.serviceTests, State.testDrain_of_not (.inl (by rw [h]; exact nofun))]

theorem State.serviceTests_of_undrained {s : State} {n : LineNo} (hs : (s.line n).service = .draining)
    (hd : s.drained n = false) : s.serviceTests n = s := by
  rw [State.serviceTests, State.testDrain_of_not (.inr hd), State.testAcks_of_not_awaiting (by rw [hs]; exact nofun)]

theorem State.entry_serviceTests_of_drained {s : State} {n : LineNo} (hs : (s.line n).service = .draining)
    (hd : s.drained n = true) (st : StationIdx) : (s.serviceTests n).entry st =
      if lineOf st = n then { s.entry st with ackMark := false } else s.entry st := by
  rw [State.serviceTests_of_drained hs hd, State.entry_congr (State.testAcks_stations n _),
    State.entry_congr (State.offerAll_stations n _ _), State.entry_awaiting]

theorem State.line_serviceTests_of_drained_ne {s : State} {n m : LineNo} (hs : (s.line n).service = .draining)
    (hd : s.drained n = true) (hm : m ≠ n) : (s.serviceTests n).line m = s.line m := by
  rw [State.serviceTests_of_drained hs hd, State.testAcks_line_ne hm, State.offerAll_line_ne hm,
    State.line_awaiting_ne hm]

/-- Settles O27: by the state of the line service, and for a drained line by its PRESENT stations and its link. -/
theorem lineServiceTests : Obligations.LineServiceTests := by
  refine fun s n => ⟨rfl, fun h => if_pos h, fun h => if_neg ?_, State.serviceTests_of_idle, fun hs ⟨r, hf, hr⟩ => ?_,
    fun hs hnone t ds ht hds => ?_, fun hs => ⟨fun hall => ?_, fun ⟨d, hp, hm⟩ => ?_⟩⟩
  · rcases h with h | h <;> rw [h] <;> simp
  · refine State.serviceTests_of_undrained hs (Bool.eq_false_iff.mpr fun hd => ?_)
    exact (s.drained_iff n).mp hd r hf hr
  · have hd : s.drained n = true := (s.drained_iff n).mpr hnone
    have hframes : s.quiesceFrames n = ds.map .quiesce := by rw [hds]; rfl
    have hpresent : s.presentDrops n = ds := hds.symm
    refine ⟨fun hnil => ?_, fun hsome hup => ?_, fun hsome hdown => ?_, fun d => ?_, fun st hst => ?_, fun m hm => ?_, ?_⟩
    · rw [ht, State.serviceTests_of_no_present hs hd (hpresent.trans hnil), State.enterQuiesced, State.line_setLine_self,
        State.line_awaiting]
      exact ⟨rfl, (State.setLine_faults _ n _).trans (s.awaiting_faults n)⟩
    · have hlink : ((s.awaiting n).line n).link = .up := by rw [State.line_awaiting]; exact hup
      obtain ⟨hline, hfaults⟩ := State.offerAll_of_up (s.quiesceFrames n) hlink
      rw [State.line_awaiting] at hline hfaults
      rw [ht, State.serviceTests_of_present hs hd (hpresent ▸ hsome), hline, hfaults, hframes]
      refine ⟨by rw [List.map_take]; rfl, ?_⟩
      rw [State.dropAll_faults_congr (s.quiet_awaiting n).rest.params (s.awaiting_faults n), State.dropAll,
        ← List.map_drop, List.foldl_map]
      rfl
    · have hlink : ((s.awaiting n).line n).link ≠ .up := by rw [State.line_awaiting]; exact hdown
      rw [ht, State.serviceTests_of_present hs hd (hpresent ▸ hsome), State.offerAll_of_not_up hlink,
        State.line_awaiting]
      exact ⟨rfl, s.awaiting_faults n⟩
    · rw [ht, State.entry_serviceTests_of_drained hs hd, if_pos (lineOf_stationAt n d)]
    · rw [ht, State.entry_serviceTests_of_drained hs hd, if_neg hst]
    · rw [ht, State.line_serviceTests_of_drained_ne hs hd hm]
    · rw [ht]
      exact (s.quiet_serviceTests n).eq (s.serviceTests_records n)
  · rw [State.serviceTests_of_awaiting hs, State.testAcks_of_all hs ((s.allAcked_iff n).mpr hall), State.enterQuiesced]
  · rw [State.serviceTests_of_awaiting hs, State.testAcks_of_missing]
    intro hall
    rw [(s.allAcked_iff n).mp hall d hp] at hm
    cases hm

end Sys2Proof.Machine
end

section
/-!
The writes that act in their event: COALESCE_COUNT (R149, R150, R152) and LINE_ENABLE (R111, R192).
-/

namespace Sys2Proof.Machine

/-- SET PARAMETER stores the value of a parameter whose checks pass, and does what follows from it (R192). -/
theorem State.setRise_writes {s : State} {number index : Byte} {v : BitVec 16} (h : s.Serving (setBytes number index v))
    {p : Param} (hp : Param.ofNumber number.toNat = some p) (hi : index.toNat < p.indexCount)
    (hv : p.least ≤ v.toNat ∧ v.toNat ≤ p.greatest) (hw : s.writableNow p index.toNat = true) :
    s.setRise number index v = (State.afterWrite p index.toNat v.toNat
      (State.onPort (s.port.havingAtLeast (setBytes number index v))
        { s with params := s.params.write p index.toNat v.toNat })).closePort := by
  have hcheck : State.checkedParam { s with port := s.port.havingAtLeast (setBytes number index v) } number.toNat
      index.toNat v.toNat = some p := by
    rw [State.checkedParam, hp]
    exact if_pos ⟨hi, hv.1, hv.2, hw⟩
  rw [State.setRise, State.riseThrough_eq _ h, State.writeParameter, hcheck]
  rfl

/-! ### COALESCE_COUNT (R152) -/

/-- The idle timer by the three rows of R152. -/
def State.coalesceTimer (s : State) : Option Tick :=
  if s.signalDue = true then s.idleTimer else if s.completionQ = [] then none else s.idleRestart

/-- C is what the queue calls for, and the timer goes by its row (R152). -/
theorem State.afterCoalesceWrite_eq (s : State) :
    s.afterCoalesceWrite = { s with signalC := s.signalDue, idleTimer := s.coalesceTimer } := by
  rw [State.afterCoalesceWrite, State.coalesceTimer]
  cases hd : s.signalDue with
  | true => rfl
  | false => by_cases hq : s.completionQ = [] <;> simp only [Bool.false_eq_true, if_false, hq, if_true]

theorem State.signalDue_false {s : State} (hlen : s.completionQ.length < s.params.coalesceCount)
    (hnormal : ∀ r ∈ s.completionQ, (s.record r).priority = .normal) : s.signalDue = false := by
  rw [← Bool.not_eq_true, State.signalDue_iff]
  rintro (hfull | ⟨r, hr, hurgent⟩)
  · omega
  · rw [hnormal r hr] at hurgent
    cases hurgent

/-- A write of COALESCE_COUNT in its range (R152, R204). -/
theorem exec_setCoalesceCount {s : State} {v : BitVec 16} (h : s.Serving (setBytes 16#8 0#8 v))
    (hv : 1 ≤ v.toNat ∧ v.toNat ≤ 16) {u : State}
    (hu : u = { s with params := { s.params with coalesceCount := v.toNat } }) :
    exec (.setCoalesceCount v) s = .next
      ({ u with signalC := u.signalDue, idleTimer := u.coalesceTimer } : State).closePort := by
  refine congrArg Host.Outcome.next ((State.setRise_writes h (p := .coalesceCount) rfl (by decide) hv rfl).trans ?_)
  rw [State.afterWrite, State.afterCoalesceWrite_eq, hu]
  rfl

/-! ### LINE_ENABLE (R111) -/

/-- LINE_ENABLE is stored, and the link follows it (R111, R192). -/
theorem State.setRise_lineEnable {s : State} {n : LineNo} {v : BitVec 16} {on : Bool}
    (h : s.Serving (setBytes 2#8 (byteOf n.val) v)) (hv : v.toNat ≤ 1) (hon : (v.toNat != 0) = on) :
    s.setRise 2#8 (byteOf n.val) v = (State.lineEnabled n on
      (State.onPort (s.port.havingAtLeast (setBytes 2#8 (byteOf n.val) v))
        { s with params := { s.params with lineEnable := s.params.lineEnable.set n.val on } })).closePort := by
  have hn : (byteOf n.val).toNat < 8 := (byteOf_line n).symm ▸ n.isLt
  rw [State.setRise_writes h (p := .lineEnable) rfl hn ⟨Nat.zero_le _, hv⟩ rfl, byteOf_line, State.afterWrite,
    dif_pos n.isLt, Params.write, setAt_eq_set, hon]

theorem State.lineEnabled_on_of_off {s : State} {n : LineNo} (h : (s.line n).link = .off) :
    s.lineEnabled n true = s.linkOn n := if_pos h

theorem State.lineEnabled_on_of_not_off {s : State} {n : LineNo} (h : (s.line n).link ≠ .off) :
    s.lineEnabled n true = s := if_neg h

theorem State.lineEnabled_off_of_off {s : State} {n : LineNo} (h : (s.line n).link = .off) :
    s.lineEnabled n false = s := if_pos h

/-- Settles O34: COALESCE_COUNT by `exec_setCoalesceCount` and its rows, LINE_ENABLE by `State.setRise_lineEnable` and the
link that the write finds. -/
theorem writesThatAct : Obligations.WritesThatAct := by
  refine ⟨fun s v h => ⟨fun hbad => ?_, fun hl hg => ?_⟩, fun s n => ⟨fun h => ⟨fun hoff => ?_, fun hon => ?_⟩,
    fun h hoff => ?_⟩⟩
  · refine congrArg _ (State.setRise_refused h (p := .coalesceCount) rfl ?_)
    simp only [Param.least, Param.greatest]
    omega
  · refine ⟨_, _, exec_setCoalesceCount h ⟨hl, hg⟩ rfl, fun hdue => ?_, fun hempty => ?_, fun hsome hlen hnormal => ?_⟩
    · have hd := (State.signalDue_iff { s with params := { s.params with coalesceCount := v.toNat } }).mpr hdue
      exact ⟨hd, if_pos hd⟩
    · have hd : State.signalDue { s with params := { s.params with coalesceCount := v.toNat } } = false :=
        State.signalDue_false (hempty ▸ hl) (by simp [hempty])
      exact ⟨hd, (if_neg (by rw [hd]; decide)).trans (if_pos hempty)⟩
    · have hd : State.signalDue { s with params := { s.params with coalesceCount := v.toNat } } = false :=
        State.signalDue_false hlen hnormal
      exact ⟨hd, (if_neg (by rw [hd]; decide)).trans (if_neg hsome)⟩
  · refine congrArg _ ((State.setRise_lineEnable h (by decide) (on := true) rfl).trans ?_)
    rw [State.lineEnabled_on_of_off (by exact hoff)]
    rfl
  · refine congrArg _ ((State.setRise_lineEnable h (by decide) (on := true) rfl).trans ?_)
    rw [State.lineEnabled_on_of_not_off (by exact hon)]
    rfl
  · refine congrArg _ ((State.setRise_lineEnable h (by decide) (on := false) rfl).trans ?_)
    rw [State.lineEnabled_off_of_off (by exact hoff)]
    rfl

end Sys2Proof.Machine
end

section
/-!
The receiver of a station link: what a character does in each receive condition (R100, R104, R106 to R108), and a frame
as the sequence of its characters (R101, R102, R109).
-/

namespace Sys2Proof.Machine

/-! ### A character taken (R100, R104) -/

/-- A character that the receiver has not sampled is given whole [log 15]. -/
theorem State.charTaken_of_unsampled {s : State} {n : LineNo} (h : ∀ d w, (s.line n).phase ≠ .complete d w) (m : Bool)
    (c : RxCond) : s.charTaken n m c = s.charGiven n m c := by
  unfold State.charTaken
  split
  · next d w hp => exact absurd hp (h d w)
  all_goals rfl

/-- A character that the receiver has sampled leaves RXD at its level (R100) [log 32]. -/
theorem State.charTaken_of_sampled {s : State} {n : LineNo} {d : Byte} {w : Bool}
    (h : (s.line n).phase = .complete d w) (m : Bool) (c : RxCond) : s.charTaken n m c = s.charSampled n m c := by
  rw [State.charTaken, h]

theorem State.forming_of_up {s : State} {n : LineNo} (ho : s.operating = true) (hl : (s.line n).link = .up) :
    s.forming n = true := by
  rw [State.forming, ho, hl]
  rfl

theorem exec_goodCharacter {s : State} {n : LineNo} (h : s.forming n = true) (b : Byte) :
    exec (.goodCharacter n b) s = .next (s.goodCharacter n b) := congrArg Host.Outcome.next (if_pos h)

theorem exec_charError {s : State} {n : LineNo} (h : s.forming n = true) :
    exec (.charError n) s = .next (s.badCharacter n) := congrArg Host.Outcome.next (if_pos h)

/-! ### A good character in each receive condition (R104) -/

theorem State.goodCharacter_hunting {s : State} {n : LineNo} (h : (s.line n).rx = .hunting) (b : Byte) :
    s.goodCharacter n b = s.charTaken n true (if b = 0xC5#8 then .assembling [] else .hunting) := by
  rw [State.goodCharacter, h]
  rfl

theorem State.goodCharacter_discarding {s : State} {n : LineNo} (h : (s.line n).rx = .discarding) (b : Byte) :
    s.goodCharacter n b = s.charTaken n true .discarding := by
  rw [State.goodCharacter, h]

theorem State.goodCharacter_assembling {s : State} {n : LineNo} {bs : List Byte} (h : (s.line n).rx = .assembling bs)
    (b : Byte) : s.goodCharacter n b = s.assemble n (bs ++ [b]) := by
  rw [State.goodCharacter, h]

theorem State.badCharacter_eq {s : State} {n : LineNo} :
    ((s.line n).rx = .hunting → s.badCharacter n = s.charTaken n false .hunting) ∧
    (∀ bs, (s.line n).rx = .assembling bs →
      s.badCharacter n = (s.charTaken n false .discarding).report (receiveReport .charError false n bs)) ∧
    ((s.line n).rx = .discarding → s.badCharacter n = s.charTaken n false .discarding) := by
  refine ⟨fun h => ?_, fun bs h => ?_, fun h => ?_⟩ <;> rw [State.badCharacter, h]

/-! ### A good character in a frame (R104, R107, R108) -/

/-- The byte that arrives is neither the fourth of a bad header nor the last of the frame. -/
theorem State.goodCharacter_continues {s : State} {n : LineNo} {bs : List Byte} {b : Byte}
    (h : (s.line n).rx = .assembling bs) (hheader : bs.length = 3 → headerGood (bs.getD 0 0#8) b = true)
    (hlast : bs.length ≠ 5 + announced bs) :
    s.goodCharacter n b = s.charTaken n true (.assembling (bs ++ [b])) := by
  have hgood : ¬ ((bs ++ [b]).length = 4 ∧
      headerGood ((bs ++ [b]).getD 0 0#8) ((bs ++ [b]).getD 3 0#8) = false) := by
    rintro ⟨hlen, hbad⟩
    have h3 : bs.length = 3 := by simpa using hlen
    rw [List.getD_append _ _ _ _ (by omega), List.getD_append_right _ _ _ _ (by omega), h3, Nat.sub_self,
      List.getD_cons_zero, hheader h3] at hbad
    cases hbad
  have hopen : ¬ frameComplete (bs ++ [b]) = true := by
    simp only [frameComplete, List.length_append, List.length_singleton, Bool.and_eq_true, decide_eq_true_eq, not_and]
    intro _ hlen
    have hsame : announced (bs ++ [b]) = announced bs :=
      congrArg BitVec.toNat (List.getD_append _ _ _ _ (by omega))
    omega
  rw [State.goodCharacter_assembling h, State.assemble, if_neg hgood, if_neg hopen]

/-- The fourth byte shows a bad header (R107). -/
theorem State.goodCharacter_badHeader {s : State} {n : LineNo} {bs : List Byte} {b : Byte}
    (h : (s.line n).rx = .assembling bs) (hlen : bs.length = 3) (hbad : headerGood (bs.getD 0 0#8) b = false) :
    s.goodCharacter n b =
      (s.charTaken n true .discarding).report (receiveReport .formatError true n (bs ++ [b])) := by
  have hread : (bs ++ [b]).length = 4 ∧
      headerGood ((bs ++ [b]).getD 0 0#8) ((bs ++ [b]).getD 3 0#8) = false := by
    refine ⟨by simp [hlen], ?_⟩
    rwa [List.getD_append _ _ _ _ (by omega), List.getD_append_right _ _ _ _ (by omega), hlen]
  rw [State.goodCharacter_assembling h, State.assemble, if_pos hread]

/-- The second check byte ends the frame, and the check decides (R102, R108). -/
theorem State.goodCharacter_lastByte {s : State} {n : LineNo} {h1 h2 h3 h4 c1 b : Byte} {payload : List Byte}
    (h : (s.line n).rx = .assembling (h1 :: h2 :: h3 :: h4 :: (payload ++ [c1]))) (hlen : payload.length = h4.toNat) :
    ([c1, b] ≠ checkBytes (h1 :: h2 :: h3 :: h4 :: payload) →
      s.goodCharacter n b = (s.charTaken n true .hunting).report
        (receiveReport .checkError true n (h1 :: h2 :: h3 :: h4 :: (payload ++ [c1]) ++ [b]))) ∧
    (∀ k, [c1, b] = checkBytes (h1 :: h2 :: h3 :: h4 :: payload) → kindOfHeader h1 = some k →
      s.goodCharacter n b = takeFrame k n (fieldsOf h1 h2 h3 payload) (s.charTaken n true .hunting)) := by
  have hbytes : h1 :: h2 :: h3 :: h4 :: (payload ++ [c1]) ++ [b] = h1 :: h2 :: h3 :: h4 :: (payload ++ [c1, b]) := by simp
  have hwhole : frameComplete (h1 :: h2 :: h3 :: h4 :: (payload ++ [c1, b])) = true := by
    simp [frameComplete, announced, hlen, Nat.add_comm 6]
  have hlong : ¬ ((h1 :: h2 :: h3 :: h4 :: (payload ++ [c1, b])).length = 4 ∧
      headerGood ((h1 :: h2 :: h3 :: h4 :: (payload ++ [c1, b])).getD 0 0#8)
        ((h1 :: h2 :: h3 :: h4 :: (payload ++ [c1, b])).getD 3 0#8) = false) := by
    simp
  have hcheck : checkAgrees (h1 :: h2 :: h3 :: h4 :: (payload ++ [c1, b])) =
      ([c1, b] == checkBytes (h1 :: h2 :: h3 :: h4 :: payload)) := by
    simp [checkAgrees, announced, ← hlen, Nat.add_comm 4]
  have hpayload : payloadOf (h1 :: h2 :: h3 :: h4 :: (payload ++ [c1, b])) = payload := by
    simp [payloadOf, announced, ← hlen]
  rw [State.goodCharacter_assembling h, hbytes, State.assemble, if_neg hlong, if_pos hwhole, State.frameArrived, hcheck,
    hpayload]
  refine ⟨fun hne => if_neg (by simpa using hne), fun k heq hk => ?_⟩
  rw [if_pos (beq_iff_eq.mpr heq)]
  simp only [List.getD_cons_zero, hk]
  rfl

/-- Settles O43: the taking of a character by its phase, and each receive condition by its lemma. -/
theorem characters : Obligations.Characters := by
  intro s n b ho hl
  have hforming := State.forming_of_up ho hl
  rw [exec_goodCharacter hforming, exec_charError hforming]
  obtain ⟨hbadHunting, hbadAssembling, hbadDiscarding⟩ := State.badCharacter_eq (s := s) (n := n)
  refine ⟨fun m c hp => ?_, fun m c d w hp => ?_, fun h => ⟨fun hb => ?_, fun hb => ?_, ?_⟩, fun h => ⟨?_, ?_⟩,
    fun bs h => ⟨?_, fun hlen => ?_, fun hlen => ⟨fun hg => ?_, fun hbad => ?_⟩, fun hlen hne => ?_,
      fun h1 h2 h3 h4 payload c1 hbs hlen => ?_⟩⟩
  · simp only [State.charTaken_of_unsampled (s := s) (n := n) (by rw [hp]; exact nofun), State.charGiven, Bool.or_eq_true]
  · simp only [State.charTaken_of_sampled hp, State.charSampled, Bool.and_eq_true, Bool.not_eq_true']
  · rw [State.goodCharacter_hunting h, if_pos hb]
  · rw [State.goodCharacter_hunting h, if_neg hb]
  · rw [hbadHunting h]
  · rw [State.goodCharacter_discarding h]
  · rw [hbadDiscarding h]
  · rw [hbadAssembling bs h]
  · rw [State.goodCharacter_continues h (by omega) (by omega)]
  · rw [State.goodCharacter_continues h (fun _ => hg) (by omega)]
  · rw [State.goodCharacter_badHeader h hlen hbad]
  · rw [State.goodCharacter_continues h (by omega) hne]
  · subst hbs
    obtain ⟨hdisagrees, hagrees⟩ := State.goodCharacter_lastByte (b := b) h hlen
    exact ⟨fun hne => congrArg _ (hdisagrees hne), fun k heq hk => congrArg _ (hagrees k heq hk)⟩

/-! ### A frame character by character (R101, R104, R109) -/

/-- The receiver of a line can be given characters whole: none that it has sampled itself waits to be taken. -/
structure State.Receiving (s : State) (n : LineNo) : Prop where
  forming : s.forming n = true
  unsampled : ∀ d w, (s.line n).phase ≠ .complete d w

theorem State.line_charTaken_of_receiving {s : State} {n : LineNo} (h : s.Receiving n) (c : RxCond) :
    (s.charTaken n true c).line n = { s.line n with rx := c, phase := .none, quiet := 0, spaceRun := 0 } := by
  rw [State.charTaken_of_unsampled h.unsampled]
  exact s.line_setLine_self n _

theorem State.Receiving.charTaken {s : State} {n : LineNo} (h : s.Receiving n) (c : RxCond) :
    (s.charTaken n true c).Receiving n := by
  have hline := State.line_charTaken_of_receiving h c
  refine ⟨?_, by rw [hline]; exact nofun⟩
  have hoperating : (s.charTaken n true c).operating = s.operating := by
    rw [State.charTaken_of_unsampled h.unsampled]
    rfl
  rw [State.forming, hoperating, hline]
  exact h.forming

/-- Of two good characters the second leaves nothing of what the first did. -/
theorem State.charTaken_twice {s : State} {n : LineNo} (h : s.Receiving n) (c d : RxCond) :
    (s.charTaken n true c).charTaken n true d = s.charTaken n true d := by
  have hgiven := State.charTaken_of_unsampled h.unsampled
  rw [State.charTaken_of_unsampled (h.charTaken c).unsampled, State.charGiven, State.line_charTaken_of_receiving h, hgiven,
    hgiven, State.charGiven, State.charGiven]
  simp [State.setLine]

/-- The characters of a good frame that have still to arrive come to the frame taken after the last of them (R104, R109). -/
theorem State.restOfFrame {g : Host.Outcome State Fault Refusal → Byte → Host.Outcome State Fault Refusal} {n : LineNo}
    (hg : ∀ t b, g (.next t) b = exec (.goodCharacter n b) t) {k : FrameKind} {h1 h2 h3 h4 c1 c2 : Byte}
    {payload : List Byte} (hheader : headerGood h1 h4 = true) (hk : kindOfHeader h1 = some k)
    (hlen : payload.length = h4.toNat) (hcheck : [c1, c2] = checkBytes (h1 :: h2 :: h3 :: h4 :: payload))
    (b : Byte) (rest : List Byte) {s : State} {bs : List Byte} (hs : s.Receiving n) (hrx : (s.line n).rx = .assembling bs)
    (hbytes : bs ++ b :: rest = h1 :: h2 :: h3 :: h4 :: (payload ++ [c1, c2])) :
    (b :: rest).foldl g (.next s) =
      .next (takeFrame k n (fieldsOf h1 h2 h3 payload) (s.charTaken n true .hunting)) := by
  induction rest generalizing s bs b with
  | nil =>
    have hsplit : bs ++ [b] = (h1 :: h2 :: h3 :: h4 :: (payload ++ [c1])) ++ [c2] := by simpa using hbytes
    obtain ⟨rfl, hlast⟩ := List.append_inj' hsplit rfl
    obtain rfl := List.singleton_inj.mp hlast
    rw [List.foldl_cons, List.foldl_nil, hg, exec_goodCharacter hs.forming,
      (State.goodCharacter_lastByte hrx hlen).2 k hcheck hk]
  | cons b' rest ih =>
    have htotal : bs.length + (rest.length + 2) = payload.length + 6 := by simpa using congrArg List.length hbytes
    have hfourth : bs.length = 3 → headerGood (bs.getD 0 0#8) b = true := by
      intro hthree
      obtain ⟨x, y, z, rfl⟩ := List.length_eq_three.mp hthree
      obtain ⟨rfl, rfl, rfl, rfl, -⟩ : x = h1 ∧ y = h2 ∧ z = h3 ∧ b = h4 ∧ _ := by simpa using hbytes
      exact hheader
    have hmore : bs.length ≠ 5 + announced bs := by
      intro hfull
      have hannounced : announced bs = h4.toNat := by
        rw [announced, ← List.getD_append bs (b :: b' :: rest) _ _ (by omega), hbytes]
        rfl
      omega
    rw [List.foldl_cons, hg, exec_goodCharacter hs.forming, State.goodCharacter_continues hrx hfourth hmore,
      ih b' (hs.charTaken _) (by rw [State.line_charTaken_of_receiving hs]) (by simpa using hbytes),
      State.charTaken_twice hs]

/-- The start byte begins a frame, and the bytes after it are taken one by one. -/
theorem State.wholeFrame {g : Host.Outcome State Fault Refusal → Byte → Host.Outcome State Fault Refusal} {n : LineNo}
    (hg : ∀ t b, g (.next t) b = exec (.goodCharacter n b) t) {s : State} (hs : s.Receiving n)
    (hrx : (s.line n).rx = .hunting) (bs : List Byte) :
    (0xC5#8 :: bs).foldl g (.next s) = bs.foldl g (.next (s.charTaken n true (.assembling []))) := by
  rw [List.foldl_cons, hg, exec_goodCharacter hs.forming, State.goodCharacter_hunting hrx, if_pos rfl]

end Sys2Proof.Machine
end

section
/-!
A good frame is the sequence of its characters (R101, R104, R109), the receive errors and their fields (R105 to R108,
R174), the end of DISCARDING (R104, R117) and the level of RXD (R100, R110).
-/

namespace Sys2Proof.Machine

/-! ### A good frame given whole (R108, R109) -/

/-- The command of a good upstream frame, when its characters can be received. -/
theorem exec_upstreamFrame {s : State} {n : LineNo} {f : UpFields} {k : FrameKind} {c : Instr}
    (hc : (k = .reply ∧ c = .reply n f) ∨ (k = .holdoff ∧ c = .holdoff n f) ∨
      (k = .probeAnswer ∧ c = .probeAnswer n f) ∨ (k = .attention ∧ c = .attention n f) ∨
      (k = .quiesceAck ∧ c = .quiesceAck n f))
    (hlen : f.payload.length ≤ 32) (hr : s.receivable n (f.frame k).body = true) :
    exec c s = .next (takeFrame k n f (s.charTaken n true .hunting)) := by
  have htake := State.receiveFrame_eq (takeFrame k n f) hlen hr
  rcases hc with ⟨rfl, rfl⟩ | ⟨rfl, rfl⟩ | ⟨rfl, rfl⟩ | ⟨rfl, rfl⟩ | ⟨rfl, rfl⟩ <;> exact congrArg Host.Outcome.next htake

theorem State.receivable_hunting {s : State} {n : LineNo} (hf : s.forming n = true) (h : (s.line n).rx = .hunting)
    (body : List Byte) : s.receivable n body = true := by
  rw [State.receivable, hf, h]
  rfl

theorem State.receivable_assembling {s : State} {n : LineNo} {body : List Byte} {i : Nat} (hf : s.forming n = true)
    (hi : i < body.length) (h : (s.line n).rx = .assembling (body.take i)) : s.receivable n body = true := by
  have hlen : (body.take i).length = i := by
    rw [List.length_take]
    omega
  simp only [State.receivable, hf, h, hlen, hi, decide_true, beq_self_eq_true, Bool.and_self]

/-- Settles O59: the rest of a frame by induction on its bytes (`State.restOfFrame`), and a HUNTING receiver is ASSEMBLING
after the start byte. -/
theorem frameIsItsCharacters : Obligations.FrameIsItsCharacters := by
  intro s n f k c rest ho hl hphase hlen hc hrest
  have hs : s.Receiving n := ⟨State.forming_of_up ho hl, hphase⟩
  have hcode : FrameKind.upstreamOfCode k.code = some k := by
    rcases hc with ⟨rfl, -⟩ | ⟨rfl, -⟩ | ⟨rfl, -⟩ | ⟨rfl, -⟩ | ⟨rfl, -⟩ <;> rfl
  obtain ⟨h1, h2, h3, h4, hheader, hgood, hkind, hfields, hannounced⟩ := header_readBack f hlen hcode
  have hbody : (f.frame k).body = h1 :: h2 :: h3 :: h4 :: (f.payload ++ checkBytes (h1 :: h2 :: h3 :: h4 :: f.payload)) := by
    have hpayload : (f.frame k).payload = f.payload := rfl
    rw [Frame.body, hheader, hpayload]
    simp
  rcases hrest with ⟨hrx, rfl⟩ | ⟨i, hi, hrx, rfl⟩
  · have hbegun := State.line_charTaken_of_receiving hs (.assembling [])
    rw [exec_upstreamFrame hc hlen (State.receivable_hunting hs.forming hrx _), Frame.wire, hbody]
    refine Eq.trans ?_ (State.wholeFrame (fun _ _ => rfl) hs hrx _).symm
    rw [State.restOfFrame (fun _ _ => rfl) hgood hkind hannounced.symm rfl h1 _ (hs.charTaken _) (by rw [hbegun]) rfl,
      hfields, State.charTaken_twice hs]
  · obtain ⟨b, more, hmore⟩ : ∃ b more, (f.frame k).body.drop i = b :: more :=
      List.exists_cons_of_ne_nil (by simpa [List.drop_eq_nil_iff] using hi)
    have hbytes : (f.frame k).body.take i ++ b :: more = (f.frame k).body := by rw [← hmore, List.take_append_drop]
    rw [exec_upstreamFrame hc hlen (State.receivable_assembling hs.forming hi hrx), hmore,
      State.restOfFrame (fun _ _ => rfl) hgood hkind hannounced.symm rfl b more hs hrx (hbytes.trans hbody), hfields]

/-! ### The fields of a receive error (R108, R174) -/

theorem headerGood_iff (h1 h4 : Byte) : headerGood h1 h4 = true ↔
    h1.getLsbD 3 = false ∧ FrameKind.upstreamOfCode (h1.toNat / 16) ≠ none ∧ h4.toNat ≤ 32 := by
  simp only [headerGood, Bool.and_eq_true, Bool.not_eq_true', Option.isSome_iff_ne_none, decide_eq_true_eq,
    and_assoc]
  rfl

/-- The codes of REPLY and HOLDOFF (R202). -/
theorem namesReply_iff (h1 : Byte) : namesReply h1 = true ↔ h1.toNat / 16 = 9 ∨ h1.toNat / 16 = 10 := by
  rw [namesReply, kindOfHeader, Bool.or_eq_true, beq_iff_eq, beq_iff_eq]
  generalize h1.toNat / 16 = c
  unfold FrameKind.upstreamOfCode
  split <;> simp_all

/-- The report of a receive error when all four header bytes had arrived. -/
theorem receiveReport_header (kind : ErrorKind) (n : LineNo) (h1 h2 h3 h4 : Byte) (rest : List Byte) :
    receiveReport kind true n (h1 :: h2 :: h3 :: h4 :: rest) =
      { kind := kind, line := some n, drop := some ⟨h1.toNat % 8, by omega⟩
        seq := if h1.toNat / 16 = 9 ∨ h1.toNat / 16 = 10 then some (seqOfHeader h2) else none
        header := some [h1, h2, h3, h4], opcode := none } := by
  simp [receiveReport, namesReply_iff, dropOfHeader]

/-- The sequence stands in the report when the kind names REPLY or HOLDOFF and its byte had arrived. -/
theorem receiveReport_seq (kind : ErrorKind) (carries : Bool) (n : LineNo) (h1 h2 : Byte) (more : List Byte) :
    (receiveReport kind carries n (h1 :: h2 :: more)).seq =
      if h1.toNat / 16 = 9 ∨ h1.toNat / 16 = 10 then some (seqOfHeader h2) else none :=
  if_congr (namesReply_iff h1) rfl rfl

/-! ### Receive errors (R105, R107, R108) -/

theorem exec_formatError {s : State} {n : LineNo} {h1 h2 h3 h4 : Byte} (hbad : headerGood h1 h4 = false)
    (hr : s.receivable n [h1, h2, h3, h4] = true) : exec (.formatError n h1 h2 h3 h4) s = .next
      ((s.charTaken n true .discarding).report (receiveReport .formatError true n [h1, h2, h3, h4])) :=
  congrArg Host.Outcome.next (if_pos (by rw [hbad, hr]; rfl))

theorem exec_checkError {s : State} {n : LineNo} {h1 h2 h3 h4 c1 c2 : Byte} {payload : List Byte}
    (hgood : headerGood h1 h4 = true) (hlen : payload.length = h4.toNat)
    (hcheck : [c1, c2] ≠ checkBytes (h1 :: h2 :: h3 :: h4 :: payload))
    (hr : s.receivable n (h1 :: h2 :: h3 :: h4 :: (payload ++ [c1, c2])) = true) :
    exec (.checkError n h1 h2 h3 h4 payload c1 c2) s = .next ((s.charTaken n true .hunting).report
      (receiveReport .checkError true n (h1 :: h2 :: h3 :: h4 :: (payload ++ [c1, c2])))) := by
  refine congrArg Host.Outcome.next (if_pos ?_)
  rw [hgood, hr, decide_eq_true hlen, beq_false_of_ne hcheck]
  rfl

/-! ### The end of the idle time (R104, R105, R117) -/

/-- The gap expiry gives up a frame in assembly (R105). -/
theorem exec_receiveGapExpiry {s : State} {n : LineNo} {bs : List Byte} (hf : s.forming n = true)
    (hi : s.rxdIdle n = true) (h : (s.line n).rx = .assembling bs) : exec (.receiveGapExpiry n) s = .next
      ((s.setLine n { s.line n with rx := .hunting }).report (receiveReport .formatError true n bs)) := by
  have hgap : s.gapExpiry n =
      (s.setLine n { s.line n with rx := .hunting }).report (receiveReport .formatError true n bs) := by
    rw [State.gapExpiry, h]
  exact congrArg Host.Outcome.next ((if_pos (by rw [hf, hi]; rfl)).trans hgap)

/-- A DISCARDING receiver hunts after the idle time, but while RESETTING is 1 it stays as it is (R104, R117). -/
theorem exec_discardIdleEnd {s : State} {n : LineNo} (hf : s.forming n = true) (hi : s.rxdIdle n = true)
    (h : (s.line n).rx = .discarding) : exec (.discardIdleEnd n) s =
      .next (if s.resetting = true then s else s.setLine n { s.line n with rx := .hunting }) := by
  show execDiscardIdleEnd n s = _
  rw [execDiscardIdleEnd, hf, hi, h]
  cases s.resetting <;> rfl

/-! ### The level of RXD (R100, R110) -/

theorem exec_rxdTransition (s : State) (n : LineNo) : exec (.rxdTransition n) s = .next
    (if s.operating = true then
      (s.setLine n (if s.pins.rxdMark[n.val] = true then (s.line n).toSpace else (s.line n).toMark)).flipRxd n
    else s.flipRxd n) := rfl

/-- The pin takes the other level, whatever the line has become. -/
theorem State.flipRxd_setLine {s : State} {n : LineNo} {mark : Bool} (h : s.pins.rxdMark[n.val] = mark) (l : Line) :
    (s.setLine n l).flipRxd n =
      { s.setLine n l with pins := { s.pins with rxdMark := s.pins.rxdMark.set n.val (!mark) } } := by
  rw [State.flipRxd, State.setLine_pins, h]

/-- Settles O44: the reports by `receiveReport_header` and its fields, the end of DISCARDING by RESETTING, and a change of
RXD by the level before it. -/
theorem receiveErrors : Obligations.ReceiveErrors := by
  refine ⟨fun s n ho hl => ?_, fun kind carries n bs o ho => ?_, fun s n => ⟨fun ho hm => ?_, fun ho hm => ?_, fun ho => ?_⟩⟩
  · have hf := State.forming_of_up ho hl
    have hidle : s.pins.rxdMark[n.val] = true → (s.line n).phase = .none → s.rxdIdle n = true := fun hm hp => by
      rw [State.rxdIdle, hm, hp]
      rfl
    refine ⟨fun h1 h2 h3 h4 hbad hr => ?_, fun h1 h2 h3 h4 c1 c2 payload hzero hkind hmax hlen hcheck hr => ?_,
      fun bs h hm hp => exec_receiveGapExpiry hf (hidle hm hp) h, fun h hm hp => ⟨fun hr => ?_, fun hr => ?_⟩⟩
    · have hheader : headerGood h1 h4 = false := by
        rw [← Bool.not_eq_true, headerGood_iff]
        rintro ⟨hzero, hkind, hmax⟩
        rcases hbad with hb | hb | hb
        · rw [hzero] at hb
          cases hb
        · exact hkind hb
        · omega
      rw [exec_formatError hheader hr, receiveReport_header]
    · rw [exec_checkError ((headerGood_iff h1 h4).mpr ⟨hzero, hkind, hmax⟩) hlen hcheck hr, receiveReport_header]
    · rw [exec_discardIdleEnd hf (hidle hm hp) h, if_neg (by rw [hr]; decide)]
    · rw [exec_discardIdleEnd hf (hidle hm hp) h, if_pos hr]
  · subst ho
    refine ⟨rfl, rfl, rfl, fun hnil => ?_, fun h1 rest hbs => ?_, fun hnone => if_neg ?_, fun hc h4 => if_pos ⟨hc, h4⟩⟩
    · subst hnil
      exact ⟨rfl, rfl⟩
    · subst hbs
      refine ⟨⟨dropOfHeader h1, rfl, rfl⟩, fun hnil => ?_, fun h2 more hrest => ?_⟩
      · subst hnil
        rfl
      · subst hrest
        rw [receiveReport_seq]
        exact ⟨fun hk => ⟨seqOfHeader h2, rfl, if_pos hk⟩, fun h9 h10 => if_neg (not_or.mpr ⟨h9, h10⟩)⟩
    · rintro ⟨hc, h4⟩
      rcases hnone with hn | hn
      · rw [hn] at hc
        cases hc
      · omega
  · rw [exec_rxdTransition, if_pos ho, if_pos hm, State.flipRxd_setLine hm]
    rfl
  · rw [exec_rxdTransition, if_pos ho, if_neg (by rw [hm]; decide), State.flipRxd_setLine hm]
    rfl
  · rw [exec_rxdTransition, if_neg (by rw [ho]; decide)]
    rfl

end Sys2Proof.Machine
end

section
/-!
QUIESCE LINE, RESUME LINE and the quiesce deadline (R119, R161, R166, R169).
-/

namespace Sys2Proof.Machine

/-! ### The instructions at their line byte (R161, R169) -/

theorem exec_quiesceLine {s : State} {b : Byte} (h : s.Awaiting [0xC4#8, b]) :
    exec (.quiesceLine b) s = .next (takeQuiesceLine b (s.arrived [0xC4#8, b])) :=
  congrArg Host.Outcome.next (State.arriveThrough_eq (o := .quiesceLine) (takeQuiesceLine b) h)

theorem exec_resumeLine {s : State} {b : Byte} (h : s.Awaiting [0xC5#8, b]) :
    exec (.resumeLine b) s = .next (takeResumeLine b (s.arrived [0xC5#8, b])) :=
  congrArg Host.Outcome.next (State.arriveThrough_eq (o := .resumeLine) (takeResumeLine b) h)

theorem takeQuiesceLine_none {b : Byte} (h : 8 ≤ b.toNat) (s : State) : takeQuiesceLine b s = s.commandError := by
  rw [takeQuiesceLine, lineOfByte_none h]

theorem takeQuiesceLine_opened {s : State} {b : Byte} {n : LineNo} (h : b.toNat = n.val)
    (ho : (s.line n).service = .opened) : takeQuiesceLine b s = (s.quiesceLine n).respond [ResultCode.ok.byte] := by
  simp only [takeQuiesceLine, lineOfByte_some h, if_pos ho]

theorem takeQuiesceLine_not_opened {s : State} {b : Byte} {n : LineNo} (h : b.toNat = n.val)
    (ho : (s.line n).service ≠ .opened) : takeQuiesceLine b s = s.respond [ResultCode.notOpen.byte] := by
  simp only [takeQuiesceLine, lineOfByte_some h, if_neg ho]

theorem takeResumeLine_none {b : Byte} (h : 8 ≤ b.toNat) (s : State) : takeResumeLine b s = s.commandError := by
  rw [takeResumeLine, lineOfByte_none h]

theorem takeResumeLine_opened {s : State} {b : Byte} {n : LineNo} (h : b.toNat = n.val)
    (ho : (s.line n).service = .opened) : takeResumeLine b s = s.respond [ResultCode.alreadyOpen.byte] := by
  simp only [takeResumeLine, lineOfByte_some h, if_pos ho]

theorem takeResumeLine_not_opened {s : State} {b : Byte} {n : LineNo} (h : b.toNat = n.val)
    (ho : (s.line n).service ≠ .opened) : takeResumeLine b s = (s.resumeLine n).respond [ResultCode.ok.byte] := by
  simp only [takeResumeLine, lineOfByte_some h, if_neg ho]

/-! ### The quiesce deadline (R119, R166) -/

theorem exec_quiesceDeadlineExpiry {s : State} (ho : s.operating = true) (n : LineNo) :
    exec (.quiesceDeadlineExpiry n) s = .next (s.quiesceExpiry n) := congrArg Host.Outcome.next (if_pos ho)

theorem State.quiesceExpiry_of_passed {s : State} {n : LineNo} {e : Tick} (hd : (s.line n).quiesceDeadline = some e)
    (hs : (s.line n).service = .awaitingAcks) (hp : s.passed e = true) :
    s.quiesceExpiry n = s.enterQuiesced n .deadline := by
  simp only [State.quiesceExpiry, hd, if_pos (And.intro hs hp)]

theorem State.quiesceExpiry_of_not_passed {s : State} {n : LineNo} {e : Tick}
    (hd : (s.line n).quiesceDeadline = some e) (hp : s.passed e = false) : s.quiesceExpiry n = s := by
  simp only [State.quiesceExpiry, hd, hp, Bool.false_eq_true, and_false, if_false]

/-! ### When the quiesce deadline is due (R119, R166) -/

theorem State.mem_dueQuiesce (s : State) (n : LineNo) (c : Instr) : c ∈ s.dueQuiesce n ↔
    ((s.line n).service = .awaitingAcks ∧ ∃ e, (s.line n).quiesceDeadline = some e ∧ s.passed e = true) ∧
      c = .quiesceDeadlineExpiry n := by
  unfold State.dueQuiesce
  cases (s.line n).quiesceDeadline <;> simp

/-- Among the events of a line its quiesce deadline stands in its own list alone. -/
theorem State.mem_dueLine_quiesceDeadlineExpiry {s : State} (ho : s.operating = true) (n m : LineNo) :
    .quiesceDeadlineExpiry n ∈ s.dueLine m ↔ .quiesceDeadlineExpiry n ∈ s.dueQuiesce m := by
  rw [State.mem_dueLine_iff, State.mem_dueLink, State.mem_dueChar ho, State.mem_dueIdle ho, State.mem_dueTx]
  simp

/-- A line's quiesce deadline can only be an event of that line. -/
theorem State.mem_due_quiesceDeadlineExpiry {s : State} (ho : s.operating = true) (n : LineNo) :
    .quiesceDeadlineExpiry n ∈ s.due ↔ .quiesceDeadlineExpiry n ∈ s.dueQuiesce n := by
  rw [State.mem_due ho]
  constructor
  · rintro (⟨-, h⟩ | ⟨m, hm⟩ | ⟨r, hr⟩ | ⟨st, hst⟩ | ⟨-, h⟩)
    · cases h
    · rw [State.mem_dueLine_quiesceDeadlineExpiry ho] at hm
      obtain ⟨-, hmn⟩ := (s.mem_dueQuiesce m _).mp hm
      cases hmn
      exact hm
    · simp [State.dueRecord] at hr
    · simp [State.dueStation] at hst
    · cases h
  · exact fun h => .inr (.inl ⟨n, (State.mem_dueLine_quiesceDeadlineExpiry ho n n).mpr h⟩)

/-- Settles O26: each instruction by its line byte and the state of the line service, the deadline by whether its tick
has passed. -/
theorem quiesceAndResume : Obligations.QuiesceAndResume := by
  refine ⟨fun s b hb => ⟨fun ha => ?_, fun ha => ?_⟩,
    fun s b n hb => ⟨fun ha => ⟨fun hs => ?_, fun hs => ?_⟩, fun ha => ⟨fun hs => ?_, fun hs => ?_⟩⟩,
    fun s n e ho hd => ⟨fun hs hp => ?_, fun hp => ?_⟩, fun s n ho => ?_⟩
  · rw [exec_quiesceLine ha, takeQuiesceLine_none hb]
    rfl
  · rw [exec_resumeLine ha, takeResumeLine_none hb]
    rfl
  · rw [exec_quiesceLine ha, takeQuiesceLine_not_opened (s := s.arrived [0xC4#8, b]) hb hs]
    rfl
  · rw [exec_quiesceLine ha, takeQuiesceLine_opened (s := s.arrived [0xC4#8, b]) hb hs]
    rfl
  · rw [exec_resumeLine ha, takeResumeLine_opened (s := s.arrived [0xC5#8, b]) hb hs]
    rfl
  · rw [exec_resumeLine ha, takeResumeLine_not_opened (s := s.arrived [0xC5#8, b]) hb hs]
    rfl
  · rw [exec_quiesceDeadlineExpiry ho, State.quiesceExpiry_of_passed hd hs hp]
    rfl
  · rw [exec_quiesceDeadlineExpiry ho, State.quiesceExpiry_of_not_passed hd hp]
  · rw [State.mem_due_quiesceDeadlineExpiry ho, State.mem_dueQuiesce, and_iff_left rfl]

end Sys2Proof.Machine
end

section
/-!
C and the idle timer against the completion queue (R149 to R152): what keeps their law, from the single updates to the
operations that end records, collect one or write COALESCE_COUNT.
-/

namespace Sys2Proof.Machine

/-- The law of C and the idle timer, with the bound of COALESCE_COUNT that an empty queue needs (R204). -/
structure State.SignalFit (s : State) : Prop where
  count : 1 ≤ s.params.coalesceCount
  lawful : s.SignalLawful

theorem Params.InRange.coalesceCount {ps : Params} (h : ps.InRange) : 1 ≤ ps.coalesceCount :=
  (h .coalesceCount 0 (by decide)).1

/-- What of a state the law speaks of: the Completion Unit, COALESCE_COUNT and the records, for their priorities. -/
def State.signalView (s : State) : Vector Record 48 × Nat × List RecordIdx × Bool × Option Tick :=
  (s.records, s.params.coalesceCount, s.completionQ, s.signalC, s.idleTimer)

/-! ### Cause for C (R149) -/

/-- The queue's cause for C is its length and the priorities of its records. -/
theorem State.signalDue_congr {s t : State} (hp : t.params.coalesceCount = s.params.coalesceCount)
    (hq : t.completionQ = s.completionQ) (hr : ∀ r ∈ s.completionQ, (t.record r).priority = (s.record r).priority) :
    t.signalDue = s.signalDue := by
  rw [Bool.eq_iff_iff, State.signalDue_iff, State.signalDue_iff, hp, hq]
  exact or_congr .rfl (exists_congr fun r => and_congr_right fun hm => by rw [hr r hm])

/-- An empty queue gives no cause for C (R204). -/
theorem State.queue_ne_nil_of_signalDue {s : State} (hc : 1 ≤ s.params.coalesceCount) (hd : s.signalDue = true) :
    s.completionQ ≠ [] := by
  rintro hq
  rcases s.signalDue_iff.mp hd with hlen | ⟨r, hr, -⟩
  · rw [hq] at hlen
    exact absurd (hc.trans hlen) (by decide)
  · rw [hq] at hr
    cases hr

/-- A queue of which no more is left gives no cause that it did not give (R151). -/
theorem State.signalDue_of_collected {s : State} {r : RecordIdx}
    (hd : ({ s.freeRecord r with completionQ := s.completionQ.filter (fun q => q != r) } : State).signalDue = true) :
    s.signalDue = true := by
  rw [State.signalDue_iff]
  rcases (s.collected_signalDue r).mp hd with hlen | ⟨q, hq, hu⟩
  · exact .inl (hlen.trans (List.length_filter_le _ _))
  · exact .inr ⟨q, List.mem_of_mem_filter hq, hu⟩

theorem State.priority_endRecords (o : ExchOutcome) (f : Bool) (rs : List RecordIdx) (s : State) (r : RecordIdx) :
    ((s.endRecords o f rs).record r).priority = (s.record r).priority := by
  rw [State.record_endRecords]
  split <;> rfl

namespace State.SignalFit

variable {s t : State}

/-! ### The single updates -/

theorem congr (h : s.SignalFit) (hp : t.params.coalesceCount = s.params.coalesceCount)
    (hq : t.completionQ = s.completionQ) (hc : t.signalC = s.signalC) (hi : t.idleTimer = s.idleTimer)
    (hr : ∀ r ∈ s.completionQ, (t.record r).priority = (s.record r).priority) : t.SignalFit := by
  refine ⟨hp ▸ h.count, ?_, ?_, ?_⟩
  · rw [State.signalDue_congr hp hq hr, hc]
    exact h.lawful.due
  · rw [hc, hq]
    exact h.lawful.set
  · rw [hi, hq]
    exact h.lawful.timer

/-- Parts of the state change of which the law does not speak. -/
theorem same (h : s.SignalFit) (hv : t.signalView = s.signalView) : t.SignalFit := by
  simp only [State.signalView, Prod.mk.injEq] at hv
  obtain ⟨hr, hp, hq, hc, hi⟩ := hv
  exact h.congr hp hq hc hi fun r _ => by rw [State.record_congr hr]

theorem table (h : s.SignalFit) (k : s.SameTable t) : t.SignalFit := by
  obtain ⟨hr, -, hrest, hq, hc, hi⟩ := k
  exact h.same (by simp only [State.signalView, hr, hrest.params, hq, hc, hi])

theorem still (h : s.SignalFit) (k : s.Still t) : t.SignalFit := h.table k.table

/-- A record of the completion queue keeps its priority; another may take any value. -/
theorem setRecord (h : s.SignalFit) (r : RecordIdx) {x : Record}
    (hx : r ∈ s.completionQ → x.priority = (s.record r).priority) : (s.setRecord r x).SignalFit := by
  refine h.congr rfl rfl rfl rfl fun i hi => ?_
  rw [State.record_setRecord]
  split
  · subst i
    exact hx hi
  · rfl

theorem foldl {α : Type} {f : State → α → State} (hf : ∀ (s : State) (a : α), s.SignalFit → (f s a).SignalFit)
    (as : List α) (h : s.SignalFit) : (as.foldl f s).SignalFit := by
  induction as generalizing s with
  | nil => exact h
  | cons a as ih => exact ih (hf s a h)

theorem ite (h : s.SignalFit) (c : Prop) [Decidable c] (k : c → t.SignalFit) : (if c then t else s).SignalFit := by
  split
  · exact k ‹_›
  · exact h

/-- An empty queue, with C clear and the timer stopped, as after a reset (R154). -/
theorem of_empty (hc : 1 ≤ s.params.coalesceCount) (hq : s.completionQ = []) (hsig : s.signalC = false)
    (hi : s.idleTimer = none) : s.SignalFit :=
  ⟨hc, fun hd => absurd hq (State.queue_ne_nil_of_signalDue hc hd), fun h => absurd h (by simp [hsig]),
    fun h => absurd h (by simp [hi])⟩

/-! ### What moves C and the timer (R149 to R152) -/

/-- Records that end set C by the length they bring the queue to, or by an URGENT one among them (R149). -/
theorem endRecords (h : s.SignalFit) (o : ExchOutcome) (f : Bool) (rs : List RecordIdx) :
    (s.endRecords o f rs).SignalFit := by
  by_cases hrs : rs = []
  · subst hrs
    exact h
  obtain ⟨hsig, -⟩ := s.endRecords_signal o f hrs
  have hq := s.endRecords_queue o f rs
  have hp := (s.rest_endRecords o f rs).params
  have hne : (s.endRecords o f rs).completionQ ≠ [] := by
    rw [hq]
    exact List.append_ne_nil_of_right_ne_nil _ hrs
  refine ⟨hp ▸ h.count, fun hd => ?_, fun _ => hne, fun _ => hne⟩
  rw [State.signalDue_iff, hp, hq] at hd
  rw [hsig, Bool.or_eq_true, Bool.or_eq_true, decide_eq_true_eq, List.any_eq_true]
  rcases hd with hlen | ⟨r, hr, hu⟩
  · exact .inl (.inr hlen)
  · rw [State.priority_endRecords] at hu
    rcases List.mem_append.mp hr with hold | hnew
    · exact .inl (.inl (h.lawful.due (s.signalDue_iff.mpr (.inr ⟨r, hold, hu⟩))))
    · exact .inr ⟨r, hnew, beq_iff_eq.mpr hu⟩

/-- A collection leaves C set only where the queue that is left calls for it (R151). -/
theorem afterCollection (hc : 1 ≤ s.params.coalesceCount) (hd : s.signalDue = true → s.signalC = true) :
    s.afterCollection.SignalFit := by
  obtain ⟨hempty, hdue, hnot⟩ := s.afterCollection_rows
  by_cases hq : s.completionQ = []
  · rw [hempty hq]
    exact of_empty hc hq rfl rfl
  · cases hs : s.signalDue with
    | true =>
      rw [hdue hq hs]
      exact ⟨hc, hd, fun _ => hq, fun _ => hq⟩
    | false =>
      rw [hnot hq hs]
      exact ⟨hc, fun h => by rw [← hs]; exact h, fun _ => hq, fun _ => hq⟩

theorem takeCollection (h : s.SignalFit) : (takeCollection s).SignalFit := by
  unfold Machine.takeCollection
  split
  · exact h
  · exact h.ite _ fun _ => afterCollection h.count fun hd => h.lawful.due (State.signalDue_of_collected hd)

/-- A write of COALESCE_COUNT makes C what the queue calls for, whatever it was (R152). -/
theorem afterCoalesceWrite (hc : 1 ≤ s.params.coalesceCount) : s.afterCoalesceWrite.SignalFit := by
  rw [State.afterCoalesceWrite_eq]
  refine ⟨hc, id, State.queue_ne_nil_of_signalDue hc, fun hi => ?_⟩
  change s.coalesceTimer.isSome = true at hi
  rintro (hq : s.completionQ = [])
  have hd : s.signalDue ≠ true := fun hd => State.queue_ne_nil_of_signalDue hc hd hq
  rw [State.coalesceTimer, if_neg hd, if_pos hq] at hi
  cases hi

/-- The timer runs only while the queue is not empty, so its expiry sets C there alone (R150). -/
theorem idleExpiry (h : s.SignalFit) :
    State.SignalFit { s with signalC := s.signalC || !s.completionQ.isEmpty, idleTimer := none } := by
  refine ⟨h.count, fun hd => ?_, fun hc => ?_, nofun⟩
  · exact Bool.or_eq_true_iff.mpr (.inl (h.lawful.due hd))
  · rcases Bool.or_eq_true_iff.mp hc with hset | hsome
    · exact h.lawful.set hset
    · simpa using hsome

end State.SignalFit

end Sys2Proof.Machine
end

section
/-!
The operations of exchanges, frames, stations and lines keep the law of C and the idle timer.
-/

namespace Sys2Proof.Machine

namespace State.SignalFit

variable {s t : State}

/-! ### The dispatch queue, the arbiter and the line service (R10, R14, R63, R90, R162) -/

theorem queueAtTail (h : s.SignalFit) (r : RecordIdx) : (s.queueAtTail r).SignalFit :=
  (h.setRecord r (x := (s.record r).requeued) fun _ => rfl).same rfl

theorem queueAtHead (h : s.SignalFit) (r : RecordIdx) : (s.queueAtHead r).SignalFit :=
  (h.setRecord r (x := (s.record r).requeued) fun _ => rfl).same rfl

theorem dispatchWith (h : s.SignalFit) (n : LineNo) (k : Handle) (q : SeqNo) : (s.dispatchWith n k q).SignalFit := by
  have hleft : (s.leaveDispatch k.index).SignalFit := h.same rfl
  refine still (hleft.setRecord k.index ?_) (State.still_startFrame n _ _ _)
  exact fun _ => rfl

theorem dispatch (h : s.SignalFit) (n : LineNo) (k : Handle) : (s.dispatch n k).SignalFit := by
  unfold State.dispatch
  split
  · exact h.dispatchWith n k _
  · split
    · refine dispatchWith ?_ n k _
      exact h.same rfl
    · exact h

theorem choose (h : s.SignalFit) (n : LineNo) : (s.choose n).SignalFit := by
  rcases State.choose_cases n s with heq | ⟨-, -, -, ⟨c, rest, -, heq⟩ | ⟨k, -, -, -, heq⟩⟩ <;> rw [heq]
  · exact h
  · exact h.same rfl
  · exact h.dispatch n k

theorem chooseAll (h : s.SignalFit) : s.chooseAll.SignalFit := foldl (fun _ n hs => hs.choose n) _ h

theorem settle (h : s.SignalFit) (n : LineNo) : (s.settle n).SignalFit := (h.still (s.still_serviceTests n)).choose n

theorem probeChoose (h : s.SignalFit) (n : LineNo) : ((s.probeSweep n).choose n).SignalFit :=
  (h.still (s.still_probeSweep n)).choose n

/-! ### Good frames (R47, R121 to R130, R156, R164) -/

theorem loseStation (h : s.SignalFit) (st : StationIdx) : (s.loseStation st).SignalFit := by
  unfold State.loseStation
  dsimp only
  have hended := h.endRecords .stationLost true (s.liveWhere fun x => x.station == st)
  exact ((hended.table (State.sameTable_setEntry _ _ _)).still (State.still_probeSweep _ _)).settle _

/-- A record takes a frame: it leaves its queue, if it stands in one, and its line may drain again (R13, R128). -/
theorem frameTaken (h : s.SignalFit) (r : RecordIdx) {x : Record} (hx : x.priority = (s.record r).priority)
    (was : RecState) (n : LineNo) : (((s.withdraw r).setRecord r x).joined was n).SignalFit := by
  have hout : (s.withdraw r).SignalFit := h.ite _ fun _ => h.same rfl
  refine (hout.setRecord r fun _ => ?_).still (State.still_joined was n _)
  rw [State.record_withdraw]
  exact hx

theorem failByFrame (h : s.SignalFit) (o : ExchOutcome) (k : ErrorKind) (n : LineNo) (f : Frame) (r : RecordIdx) :
    (s.failByFrame o k n f r).SignalFit := (h.endRecords o true [r]).still (State.still_report _ _)

theorem acceptLast (h : s.SignalFit) (f : Frame) (r : RecordIdx) : (s.acceptLast f r).SignalFit := by
  refine endRecords (h.setRecord r ?_) _ _ _
  exact fun _ => rfl

theorem acceptPart (h : s.SignalFit) (n : LineNo) (f : Frame) (r : RecordIdx) : (s.acceptPart n f r).SignalFit := by
  unfold State.acceptPart
  apply h.frameTaken r
  rfl

theorem defer (h : s.SignalFit) (n : LineNo) (f : Frame) (r : RecordIdx) : (s.defer n f r).SignalFit := by
  unfold State.defer
  apply h.frameTaken r
  rfl

theorem nextSegment (h : s.SignalFit) (n : LineNo) (f : Frame) (r : RecordIdx) : (s.nextSegment n f r).SignalFit := by
  unfold State.nextSegment
  split
  · exact h.failByFrame _ _ n f r
  · split
    · exact h.failByFrame _ _ n f r
    · split
      · exact h.acceptLast f r
      · exact h.acceptPart n f r

theorem deliverReply (h : s.SignalFit) (n : LineNo) (f : Frame) (r : RecordIdx) : (s.deliverReply n f r).SignalFit := by
  unfold State.deliverReply
  split
  · exact h.failByFrame _ _ n f r
  · split
    · exact h.still (s.still_report _)
    · split
      · exact h.nextSegment n f r
      · exact h.failByFrame _ _ n f r

theorem deliverHoldoff (h : s.SignalFit) (n : LineNo) (f : Frame) (r : RecordIdx) :
    (s.deliverHoldoff n f r).SignalFit := by
  unfold State.deliverHoldoff
  split
  · exact h.failByFrame _ _ n f r
  · split
    · exact h.still (s.still_report _)
    · unfold State.countHoldoff
      split
      · exact h.defer n f r
      · exact h.endRecords _ _ _

theorem matchFrame (h : s.SignalFit) {deliver : RecordIdx → State → State} (n : LineNo) (f : Frame)
    (hd : ∀ (r : RecordIdx) (u : State), u.SignalFit → (deliver r u).SignalFit) :
    (s.matchFrame deliver n f).SignalFit := by
  unfold State.matchFrame
  dsimp only
  have hlife := h.still (s.still_signOfLife (stationAt n f.drop))
  split
  · exact h.still (s.still_report _)
  · split
    · exact (hd _ _ hlife).settle n
    · split <;> exact hlife.still (State.still_report _ _)

theorem makePresent (h : s.SignalFit) (n : LineNo) (f : UpFields) : (s.makePresent n f).SignalFit :=
  ((h.table (s.sameTable_setEntry _ _)).still (State.still_awaitNew n f.drop _)).settle n

theorem takeProbeAnswer (h : s.SignalFit) (n : LineNo) (f : UpFields) : (takeProbeAnswer n f s).SignalFit := by
  unfold Machine.takeProbeAnswer
  dsimp only
  split
  · exact h.still (s.still_report _)
  · split
    · exact (h.still (s.still_signOfLife _)).still (State.still_report _ _)
    · exact h.still (s.still_report _)
    all_goals exact h.makePresent n f

theorem placeCause (h : s.SignalFit) (n : LineNo) (f : UpFields) : (s.placeCause n f).SignalFit := by
  unfold State.placeCause
  dsimp only
  split
  · exact h.same rfl
  · exact h.same rfl
  · exact ((h.still (s.still_report _)).still (State.still_offer n _ _)).choose n

theorem takeAttention (h : s.SignalFit) (n : LineNo) (f : UpFields) : (takeAttention n f s).SignalFit := by
  unfold Machine.takeAttention
  dsimp only
  split
  · exact h.still (s.still_report _)
  · exact (h.still (s.still_signOfLife _)).placeCause n f

theorem takeQuiesceAck (h : s.SignalFit) (n : LineNo) (f : UpFields) : (takeQuiesceAck n f s).SignalFit := by
  unfold Machine.takeQuiesceAck
  dsimp only
  have hlife := h.still (s.still_signOfLife (stationAt n f.drop))
  split
  · exact h.still (s.still_report _)
  · split
    · exact hlife.still (State.still_report _ _)
    · exact hlife.still (State.still_report _ _)
    · exact (hlife.still (State.still_markAck _ _)).still (State.still_testAcks n _)
    · exact hlife.still (State.still_markAck _ _)

theorem takeFrame (h : s.SignalFit) (k : FrameKind) (n : LineNo) (f : UpFields) : (takeFrame k n f s).SignalFit := by
  cases k with
  | reply => exact h.matchFrame n _ fun r _ hu => hu.deliverReply n _ r
  | holdoff => exact h.matchFrame n _ fun r _ hu => hu.deliverHoldoff n _ r
  | probeAnswer => exact h.takeProbeAnswer n f
  | attention => exact h.takeAttention n f
  | quiesceAck => exact h.takeQuiesceAck n f
  | request | abandon | probe | quiesce | attnRefused => exact h

/-! ### Characters (R100, R104 to R108) -/

theorem charTaken (h : s.SignalFit) (n : LineNo) (mark : Bool) (c : RxCond) : (s.charTaken n mark c).SignalFit := by
  unfold State.charTaken
  split <;> exact h.same rfl

theorem goodCharacter (h : s.SignalFit) (n : LineNo) (b : Byte) : (s.goodCharacter n b).SignalFit := by
  unfold State.goodCharacter
  split
  · exact h.charTaken n _ _
  · unfold State.assemble
    split
    · exact (h.charTaken n _ _).still (State.still_report _ _)
    · split
      · unfold State.frameArrived
        dsimp only
        split
        · split
          · exact (h.charTaken n _ _).takeFrame _ n _
          · exact h.charTaken n _ _
        · exact (h.charTaken n _ _).still (State.still_report _ _)
      · exact h.charTaken n _ _
  · exact h.charTaken n _ _

theorem badCharacter (h : s.SignalFit) (n : LineNo) : (s.badCharacter n).SignalFit := by
  unfold State.badCharacter
  split
  · exact h.charTaken n _ _
  · exact (h.charTaken n _ _).still (State.still_report _ _)
  · exact h.charTaken n _ _

theorem gapExpiry (h : s.SignalFit) (n : LineNo) : (s.gapExpiry n).SignalFit := by
  unfold State.gapExpiry
  split
  · exact h
  · exact h.same rfl
  · exact h

theorem receiveFrame (h : s.SignalFit) (k : FrameKind) (n : LineNo) (f : UpFields) :
    (s.receiveFrame k n f (Machine.takeFrame k n f)).SignalFit := h.ite _ fun _ => (h.charTaken n _ _).takeFrame k n f

/-! ### Links, line resets and the soft reset (R57, R58, R97, R112 to R114, R154, R195) -/

theorem linkUp (h : s.SignalFit) (n : LineNo) : (s.linkUp n).SignalFit := by
  unfold State.linkUp
  dsimp only
  refine probeChoose (table ?_ (State.sameTable_mapLineEntries _ n _)) n
  exact h.same rfl

/-- A line loses its link: its live records end, its entries change, and its service is told (R57, R58). -/
theorem clearLine (h : s.SignalFit) (n : LineNo) (k : Link) (o : ExchOutcome) (f : Bool) (g : State → Entry → Entry)
    {u v : State} (hu : u = s.setLine n ((s.line n).unlinked k)) (hv : v = u.endRecords o f (u.liveOnLine n)) :
    ((v.mapLineEntries n (g v)).settle n).SignalFit := by
  have hcut : u.SignalFit := hu ▸ h.same rfl
  have hended : v.SignalFit := hv ▸ hcut.endRecords o f _
  exact (hended.table (v.sameTable_mapLineEntries n _)).settle n

theorem linkDown (h : s.SignalFit) (n : LineNo) : (s.linkDown n).SignalFit :=
  h.clearLine n .down .lineDown true (fun v => Entry.lostByDown v.tick) rfl rfl

theorem linkOff (h : s.SignalFit) (n : LineNo) : (s.linkOff n).SignalFit :=
  h.clearLine n .off .lineDown false (fun v => Entry.byOff v.tick) rfl rfl

theorem lineEnabled (h : s.SignalFit) (n : LineNo) (on : Bool) : (s.lineEnabled n on).SignalFit := by
  unfold State.lineEnabled
  split
  · exact h.ite _ fun _ => h.same rfl
  · split
    · exact h
    · exact h.linkOff n

theorem lineResetActs (h : s.SignalFit) (n : LineNo) : (s.lineResetActs n).SignalFit := by
  unfold State.lineResetActs
  dsimp only
  have hended := h.endRecords .lineReset false (s.liveOnLine n)
  generalize s.endRecords .lineReset false (s.liveOnLine n) = u at hended ⊢
  have hline : (u.setLine n (u.line n).resetOwn).SignalFit := hended.same rfl
  have hentries := hline.table (State.sameTable_mapLineEntries _ n (Entry.reset u.tick))
  refine probeChoose ?_ n
  exact hentries.same rfl

theorem lineResetTaken (h : s.SignalFit) (n : LineNo) : (s.lineResetTaken n).SignalFit := by
  unfold State.lineResetTaken
  split
  · exact h.lineResetActs n
  · exact h.same rfl

theorem endPeriod (h : s.SignalFit) : s.endPeriod.SignalFit := by
  unfold State.endPeriod
  have hover : State.SignalFit { s with resetting := false } := h.same rfl
  refine chooseAll (hover.still (State.still_mapLines _ (fun _ l => ?_) (fun _ l => ?_) fun _ l => ?_))
  all_goals split <;> rfl

theorem beginPeriod (h : s.SignalFit) : s.beginPeriod.SignalFit := by
  unfold State.beginPeriod
  split
  · exact h.endPeriod
  · exact h.same rfl

/-- A soft reset empties the Completion Unit (R154). -/
theorem takeSoftReset (h : s.SignalFit) : (takeSoftReset s).SignalFit := by
  obtain ⟨hrest, hq, hsig, hi⟩ := s.quiet_probeAll_softened
  rw [takeSoftReset_eq]
  refine beginPeriod (of_empty ?_ hq hsig hi)
  rw [hrest.params]
  exact h.count

/-! ### The ends of frames, deadlines and the line service (R93, R95, R131 to R135, R161, R166, R169) -/

theorem afterIdle (h : s.SignalFit) (n : LineNo) : (s.afterIdle n).SignalFit := by
  unfold State.afterIdle
  dsimp only
  have hreset := h.ite (t := s.lineResetActs n) ((s.line n).resetWaiting = true) fun _ => h.lineResetActs n
  generalize (if (s.line n).resetWaiting = true then s.lineResetActs n else s) = u at hreset ⊢
  split
  · exact hreset.ite _ fun _ => hreset.endPeriod
  · exact hreset.choose n

theorem idleTx (h : s.SignalFit) (n : LineNo) : ((s.setLine n { s.line n with tx := .idle }).afterIdle n).SignalFit := by
  refine afterIdle ?_ n
  exact h.same rfl

theorem presentHandle (h : s.SignalFit) (k : Option Handle) : (s.presentHandle k).SignalFit := by
  unfold State.presentHandle
  split
  · exact h
  · exact h.ite _ fun _ => h.setRecord _ fun _ => rfl

theorem transmitEnd (h : s.SignalFit) (n : LineNo) : (s.transmitEnd n).SignalFit := by
  unfold State.transmitEnd
  split
  · exact h
  · exact (h.presentHandle _).idleTx n
  · exact h

theorem stoppingEnd (h : s.SignalFit) (n : LineNo) : (s.stoppingEnd n).SignalFit := by
  unfold State.stoppingEnd
  split
  · exact h
  · exact h
  · exact h.idleTx n

theorem txEnd (h : s.SignalFit) (n : LineNo) : (s.txEnd n).SignalFit := by
  unfold State.txEnd
  split
  · exact h.afterIdle n
  · exact h.transmitEnd n
  · exact h.stoppingEnd n

theorem timeOut (h : s.SignalFit) (r : RecordIdx) : (s.timeOut r).SignalFit := h.endRecords _ _ _

theorem retry (h : s.SignalFit) (r : RecordIdx) : (s.retry r).SignalFit := by
  refine queueAtHead (h.setRecord r ?_) r
  exact fun _ => rfl

theorem replyExpiry (h : s.SignalFit) (r : RecordIdx) : (s.replyExpiry r).SignalFit := by
  unfold State.replyExpiry
  dsimp only
  have hcounted := h.still (s.still_countFailure (s.record r).station)
  split
  · exact hcounted.loseStation _
  · split
    · exact (hcounted.retry r).settle _
    · exact (hcounted.timeOut r).settle _

theorem segmentExpiry (h : s.SignalFit) (r : RecordIdx) : (s.segmentExpiry r).SignalFit := by
  unfold State.segmentExpiry
  dsimp only
  have hcounted := h.still (s.still_countFailure (s.record r).station)
  split
  · exact hcounted.loseStation _
  · exact (hcounted.timeOut r).settle _

theorem quiesceLine (h : s.SignalFit) (n : LineNo) : (s.quiesceLine n).SignalFit := by
  refine settle ?_ n
  exact h.same rfl

theorem resumeLine (h : s.SignalFit) (n : LineNo) : (s.resumeLine n).SignalFit := by
  refine probeChoose ?_ n
  exact h.same rfl

theorem quiesceExpiry (h : s.SignalFit) (n : LineNo) : (s.quiesceExpiry n).SignalFit := by
  unfold State.quiesceExpiry
  split
  · exact h
  · exact h.ite _ fun _ => h.same rfl

end State.SignalFit

end Sys2Proof.Machine
end

section
/-!
The controller port, the resets and the step keep the law of C and the idle timer: O58. A record that a POST reserves or
gives up is not terminal, and so stands in no completion queue (R141).
-/

namespace Sys2Proof.Machine

/-- A record that is not terminal stands in no completion queue (R141). -/
theorem State.CompletionLawful.not_mem {s : State} (h : s.CompletionLawful) {r : RecordIdx}
    (hr : (s.record r).state.terminal = false) : r ∉ s.completionQ := fun hm => by
  rw [h.all, hr] at hm
  cases hm

/-- The completion queue's law does not speak of the port. -/
theorem State.CompletionLawful.withPort {s : State} (h : s.CompletionLawful) (p : Port) :
    State.CompletionLawful { s with port := p } := ⟨h.once, h.all⟩

/-- Another parameter's write leaves COALESCE_COUNT as it is (R192). -/
theorem Params.coalesceCount_write_of_ne (ps : Params) {p : Param} (hp : p ≠ .coalesceCount) (i v : Nat) :
    (ps.write p i v).coalesceCount = ps.coalesceCount := ps.read_write_of_ne hp.symm i 0 v

namespace State.SignalFit

variable {s t : State}

theorem respond (h : s.SignalFit) (bs : List Byte) : (s.respond bs).SignalFit := h.same rfl

theorem commandError (h : s.SignalFit) : s.commandError.SignalFit := h.same rfl

theorem closePort (h : s.SignalFit) : s.closePort.SignalFit := h.same rfl

theorem withPort (h : s.SignalFit) (p : Port) : State.SignalFit { s with port := p } := h.same rfl

/-! ### Decisions (R185) -/

/-- A POST reserves a FREE record, which no queue holds (R9, R141). -/
theorem reserve (h : s.SignalFit) (hl : s.CompletionLawful) (head : PostHeader) {r : RecordIdx}
    (hr : (s.record r).state = .free) : (s.reserve head r).SignalFit := by
  have hset : (s.setRecord r (reservedRecord (s.record r).gen head)).SignalFit :=
    h.setRecord r fun hm => absurd hm (hl.not_mem (by rw [hr]; rfl))
  exact hset.same rfl

theorem takePostAdmission (h : s.SignalFit) (hl : s.CompletionLawful) (h1 h2 h3 h4 : Byte) :
    (takePostAdmission h1 h2 h3 h4 s).SignalFit := by
  unfold Machine.takePostAdmission
  split
  · exact (h.respond _).commandError
  · split
    · exact h.respond _
    · split
      · exact h.reserve hl _ (State.lowestFree_free ‹_›)
      · exact h.respond _

theorem cancelRecord (h : s.SignalFit) (r : RecordIdx) : (s.cancelRecord r).SignalFit := by
  unfold State.cancelRecord
  dsimp only
  refine settle ?_ _
  split
  · exact (h.endRecords _ _ _).still (State.still_offer _ _ _)
  · exact h.endRecords _ _ _

theorem takeCancel (h : s.SignalFit) (index gen : Byte) : (takeCancel index gen s).SignalFit := by
  unfold Machine.takeCancel
  split
  · exact h.commandError
  · exact h.respond _
  · split
    · exact h.respond _
    · exact h.ite _ fun _ => (h.cancelRecord _).respond _

theorem takeCollect (h : s.SignalFit) (index gen : Byte) : (takeCollect index gen s).SignalFit := by
  unfold Machine.takeCollect
  split
  · exact h.commandError
  · exact h.respond _
  · split <;> exact h.same rfl

theorem takeCollectNext (h : s.SignalFit) : (takeCollectNext s).SignalFit := by
  unfold Machine.takeCollectNext
  split <;> exact h.same rfl

theorem takeReadRecord (h : s.SignalFit) (index gen : Byte) : (takeReadRecord index gen s).SignalFit := by
  unfold Machine.takeReadRecord
  split <;> exact h.same rfl

theorem takeReadStation (h : s.SignalFit) (b : Byte) : (takeReadStation b s).SignalFit := by
  unfold Machine.takeReadStation
  split <;> exact h.same rfl

theorem takeEnableStation (h : s.SignalFit) (b : Byte) : (takeEnableStation b s).SignalFit := by
  unfold Machine.takeEnableStation
  split
  · exact h.commandError
  · split
    · unfold State.enableStation
      exact (probeChoose (h.table (s.sameTable_setEntry _ _)) _).respond _
    all_goals exact h.respond _

theorem disableStation (h : s.SignalFit) (st : StationIdx) : (s.disableStation st).SignalFit := by
  unfold State.disableStation
  have hended := h.endRecords .stationDisabled true (s.liveWhere fun x => x.station == st)
  exact ((hended.table (State.sameTable_setEntry _ _ _)).still (State.still_offerAll _ _ _)).settle _

theorem takeDisableStation (h : s.SignalFit) (b : Byte) : (takeDisableStation b s).SignalFit := by
  unfold Machine.takeDisableStation
  split
  · exact h.commandError
  · split
    · exact h.respond _
    all_goals exact (h.disableStation _).respond _

theorem takeAckAttention (h : s.SignalFit) (b : Byte) : (takeAckAttention b s).SignalFit := by
  unfold Machine.takeAckAttention
  split
  · exact h.commandError
  · split <;> exact h.respond _

theorem takeReadLine (h : s.SignalFit) (b : Byte) : (takeReadLine b s).SignalFit := by
  unfold Machine.takeReadLine
  split <;> exact h.same rfl

theorem takeQuiesceLine (h : s.SignalFit) (b : Byte) : (takeQuiesceLine b s).SignalFit := by
  unfold Machine.takeQuiesceLine
  split
  · exact h.commandError
  · split
    · exact (h.quiesceLine _).respond _
    · exact h.respond _

theorem takeResumeLine (h : s.SignalFit) (b : Byte) : (takeResumeLine b s).SignalFit := by
  unfold Machine.takeResumeLine
  split
  · exact h.commandError
  · split
    · exact h.respond _
    · exact (h.resumeLine _).respond _

theorem takeReadParameter (h : s.SignalFit) (number index : Byte) : (takeReadParameter number index s).SignalFit := by
  unfold Machine.takeReadParameter
  split
  · exact h.commandError
  · split
    · exact h.respond _
    · exact h.commandError

theorem takeDecision (h : s.SignalFit) (hl : s.CompletionLawful) (o : Opcode) (p : Nat → Byte) :
    (takeDecision o p s).SignalFit := by
  cases o with
  | readStatus | readErrors => exact h.respond _
  | post => exact h.takePostAdmission hl _ _ _ _
  | cancel => exact h.takeCancel _ _
  | collect => exact h.takeCollect _ _
  | collectNext => exact h.takeCollectNext
  | readRecord => exact h.takeReadRecord _ _
  | readStation => exact h.takeReadStation _
  | enableStation => exact h.takeEnableStation _
  | disableStation => exact h.takeDisableStation _
  | ackAttention => exact h.takeAckAttention _
  | readLine => exact h.takeReadLine _
  | quiesceLine => exact h.takeQuiesceLine _
  | resumeLine => exact h.takeResumeLine _
  | readParameter => exact h.takeReadParameter _ _
  | readStationChanges | lineReset | setParameter | clearErrors | softReset => exact h

theorem arriveThrough (h : s.SignalFit) (hl : s.CompletionLawful) (o : Opcode) (ps : List Byte) {take : State → State}
    (ht : ∀ u : State, u.SignalFit → u.CompletionLawful → (take u).SignalFit) : (s.arriveThrough o ps take).SignalFit :=
  h.ite _ fun _ => by
    dsimp only
    split
    · exact h.withPort _
    · exact ht _ (h.withPort _) (hl.withPort _)

/-! ### The rise of CSn (R10, R31, R32, R185, R192) -/

theorem takePostCommit (h : s.SignalFit) (hl : s.Lawful) : (takePostCommit s).SignalFit := by
  unfold Machine.takePostCommit
  split
  · exact h
  · rename_i r hr
    have hout : r ∉ s.completionQ := hl.completion.not_mem (by rw [(hl.reserved r).mpr hr]; rfl)
    split
    · unfold State.commitRecord
      split
      · exact h.endRecords _ _ _
      · split
        · exact h.endRecords _ _ _
        · exact (h.queueAtTail r).choose _
    · exact commandError (h.setRecord r fun hm => absurd hm hout)

theorem takeStationChangesClear (h : s.SignalFit) : (takeStationChangesClear s).SignalFit := by
  unfold Machine.takeStationChangesClear
  exact h.same (by simp only [State.signalView, State.mapEntries_records, State.mapEntries_params,
    State.mapEntries_completionQ, State.mapEntries_signalC, State.mapEntries_idleTimer])

theorem takeAcknowledge (h : s.SignalFit) : (takeAcknowledge s).SignalFit := by
  unfold Machine.takeAcknowledge
  refine h.ite _ fun _ => ?_
  split
  · exact h.same rfl
  · exact h

theorem takeFinishedClear (h : s.SignalFit) : (takeFinishedClear s).SignalFit := by
  unfold Machine.takeFinishedClear
  refine h.ite _ fun _ => ?_
  split
  · exact h.same rfl
  · exact h

theorem takeLineReset (h : s.SignalFit) (b : Byte) : (takeLineReset b s).SignalFit := by
  unfold Machine.takeLineReset
  split
  · exact h.commandError
  · exact h.lineResetTaken _

/-- A parameter that passes the checks is written in its range, and of all of them COALESCE_COUNT alone has to do with C
(R149, R152, R192). -/
theorem writeParameter (h : s.SignalFit) (number index value : Nat) :
    (s.writeParameter number index value).SignalFit := by
  unfold State.writeParameter
  split
  · exact h.commandError
  · next p hp =>
    obtain ⟨-, -, hleast, -, -⟩ := State.checkedParam_some hp
    by_cases hcount : p = .coalesceCount
    · subst hcount
      exact afterCoalesceWrite hleast
    · have hwritten : State.SignalFit { s with params := s.params.write p index value } :=
        h.same (by simp only [State.signalView, Params.coalesceCount_write_of_ne _ hcount])
      unfold State.afterWrite
      split
      · split
        · exact hwritten.lineEnabled _ _
        · exact hwritten
      · exact absurd rfl hcount
      · exact hwritten

theorem takeClearErrors (h : s.SignalFit) : (takeClearErrors s).SignalFit := h.same rfl

theorem takeRise (h : s.SignalFit) (hl : s.Lawful) (o : Opcode) (p : Nat → Byte) : (takeRise o p s).SignalFit := by
  cases o with
  | post => exact h.takePostCommit hl
  | collect | collectNext => exact h.takeCollection
  | readStationChanges => exact h.takeStationChangesClear
  | ackAttention => exact h.takeAcknowledge
  | readLine => exact h.takeFinishedClear
  | lineReset => exact h.takeLineReset _
  | setParameter => exact h.writeParameter _ _ _
  | clearErrors => exact h.takeClearErrors
  | softReset => exact h.takeSoftReset
  | _ => exact h

theorem riseThrough (h : s.SignalFit) (bs : List Byte) {effect : State → State}
    (he : ∀ u : State, u.SignalFit → (effect u).SignalFit) : (s.riseThrough bs effect).SignalFit :=
  h.ite _ fun _ => by
    dsimp only
    refine closePort ?_
    split
    · exact h.withPort _
    · exact he _ (h.withPort _)

theorem riseWhen (h : s.SignalFit) (c : Bool) {effect : State → State} (he : (effect s).SignalFit) :
    (s.riseWhen c effect).SignalFit := h.ite _ fun _ => he.closePort

theorem riseEffect (h : s.SignalFit) (hl : s.Lawful) : s.riseEffect.SignalFit := by
  unfold State.riseEffect
  split
  · exact h
  · split
    · exact h.commandError
    · split
      · exact h.commandError
      · exact h.takeRise hl _ _

/-! ### The arrival of a byte (R29, R183, R186) -/

theorem storePayload (h : s.SignalFit) (k : Nat) (b : Byte) : (s.storePayload k b).SignalFit := by
  unfold State.storePayload
  split
  · exact h
  · exact h.ite _ fun _ => h.setRecord _ fun _ => rfl

theorem beginChangeByte (h : s.SignalFit) : s.beginChangeByte.SignalFit := by
  unfold State.beginChangeByte
  split
  · exact h.ite _ fun _ => h.respond _
  · exact h

theorem excessByte (h : s.SignalFit) (k : Nat) (b : Byte) : (s.excessByte k b).SignalFit := by
  unfold State.excessByte
  split
  · exact (h.storePayload k b).withPort _
  · exact h.beginChangeByte.withPort _
  · exact h.withPort _

theorem byteArrives (h : s.SignalFit) (hl : s.CompletionLawful) (b : Byte) : (s.byteArrives b).SignalFit := by
  unfold State.byteArrives
  dsimp only
  split
  · have hstored := h.withPort { s.port with bytes := s.port.bytes ++ [b], count := s.port.count + 1 }
    split
    · exact hstored
    · split
      · exact hstored
      · exact hstored.ite _ fun _ => hstored.takeDecision (hl.withPort _) _ _
  · have hcounted := h.withPort { s.port with count := s.port.count + 1 }
    split
    · exact hcounted
    · exact hcounted.excessByte _ b

/-! ### Every command, and the step (R22, R118, R154, R189) -/

/-- After power-on the Completion Unit is empty, whatever came before (R154). -/
theorem powerOn (p : Power) (s : State) : (s.powerOn p).SignalFit :=
  of_empty Params.inRange_defaults.coalesceCount rfl rfl rfl

theorem clockPeriod (h : s.SignalFit) : s.clockPeriod.SignalFit :=
  h.ite _ fun _ => by
    have hlines := h.still s.still_period
    exact hlines.same rfl

theorem next_ite (h : s.SignalFit) (c : Prop) [Decidable c] (k : c → t.SignalFit) :
    ∃ u, (.next (if c then t else s) : Host.Outcome State Fault Refusal) = .next u ∧ u.SignalFit := ⟨_, rfl, h.ite c k⟩

theorem execPinReset (h : s.SignalFit) (periods : Nat) : ∃ t, execPinReset periods s = .next t ∧ t.SignalFit := by
  refine ⟨_, rfl, ?_⟩
  split
  · exact powerOn _ s
  · split
    · exact h
    · dsimp only
      split
      · exact powerOn _ _
      · exact h.same rfl

theorem exec (h : s.SignalFit) (hl : s.Lawful) (c : Instr) : ∃ t, exec c s = .next t ∧ t.SignalFit := by
  have harrive : ∀ (o : Opcode) (ps : List Byte) (p : Nat → Byte),
      (s.arriveThrough o ps (Machine.takeDecision o p)).SignalFit := fun o ps p =>
    h.arriveThrough hl.completion o ps fun _ hu hul => hu.takeDecision hul o p
  have hset : ∀ number index value, (s.setRise number index value).SignalFit := fun number index value =>
    h.riseThrough _ fun _ hu => hu.writeParameter _ _ _
  cases c with
  | transactionStart =>
    refine h.next_ite _ fun _ => ?_
    split <;> exact h.same rfl
  | readStatus => exact ⟨_, rfl, harrive .readStatus [] (fun _ => 0#8)⟩
  | postAdmission h1 h2 h3 h4 =>
    exact ⟨_, rfl, h.arriveThrough hl.completion _ _ fun _ hu hul => hu.takePostAdmission hul _ _ _ _⟩
  | postCommit => exact ⟨_, rfl, h.riseWhen _ (h.takePostCommit hl)⟩
  | cancel index gen => exact ⟨_, rfl, harrive .cancel [index, gen] (fun i => [index, gen].getD i 0#8)⟩
  | collect index gen => exact ⟨_, rfl, harrive .collect [index, gen] (fun i => [index, gen].getD i 0#8)⟩
  | collectNext => exact ⟨_, rfl, harrive .collectNext [] (fun _ => 0#8)⟩
  | collection => exact ⟨_, rfl, h.riseWhen _ h.takeCollection⟩
  | readRecord index gen => exact ⟨_, rfl, harrive .readRecord [index, gen] (fun i => [index, gen].getD i 0#8)⟩
  | readStation b => exact ⟨_, rfl, harrive .readStation [b] (fun _ => b)⟩
  | readStationChanges =>
    refine h.next_ite _ fun _ => ?_
    have hcarried := h.withPort (s.port.havingAtLeast [Opcode.readStationChanges.code])
    dsimp only
    split
    · exact hcarried
    · exact hcarried.beginChangeByte
  | stationChangesClear => exact ⟨_, rfl, h.riseWhen _ h.takeStationChangesClear⟩
  | enableStation b => exact ⟨_, rfl, harrive .enableStation [b] (fun _ => b)⟩
  | disableStation b => exact ⟨_, rfl, harrive .disableStation [b] (fun _ => b)⟩
  | ackAttention b => exact ⟨_, rfl, harrive .ackAttention [b] (fun _ => b)⟩
  | attentionAcknowledge => exact ⟨_, rfl, h.riseWhen _ h.takeAcknowledge⟩
  | readLine b => exact ⟨_, rfl, harrive .readLine [b] (fun _ => b)⟩
  | quiesceFinishedClear => exact ⟨_, rfl, h.riseWhen _ h.takeFinishedClear⟩
  | quiesceLine b => exact ⟨_, rfl, harrive .quiesceLine [b] (fun _ => b)⟩
  | resumeLine b => exact ⟨_, rfl, harrive .resumeLine [b] (fun _ => b)⟩
  | lineReset b => exact ⟨_, rfl, h.riseThrough _ fun _ hu => hu.takeLineReset b⟩
  | lineResetAct n => exact h.next_ite _ fun _ => h.txEnd n
  | setParameter | lineEnableOn | lineEnableOff | setLineRate | setWindowLimit | setTickDivider | setUrgentReserve
  | setCoalesceCount | setNoteEnable | setErrorClass | setFaultEnable => exact ⟨_, rfl, hset _ _ _⟩
  | readParameter number index =>
    exact ⟨_, rfl, harrive .readParameter [number, index] (fun i => [number, index].getD i 0#8)⟩
  | readErrors => exact ⟨_, rfl, harrive .readErrors [] (fun _ => 0#8)⟩
  | clearErrors => exact ⟨_, rfl, h.riseThrough _ fun _ hu => hu.takeClearErrors⟩
  | softReset => exact ⟨_, rfl, h.riseThrough _ fun _ hu => hu.takeSoftReset⟩
  | resetPeriodEnd =>
    refine h.next_ite _ fun _ => ?_
    split
    · exact h.endPeriod
    · exact h.txEnd _
    · exact h
  | unknownOpcode b => exact h.next_ite _ fun _ => h.riseThrough _ fun _ hu => hu.commandError
  | shortInstruction =>
    refine ⟨_, rfl, h.riseWhen _ ?_⟩
    unfold takeShort
    split
    · exact h.commandError
    · exact h.takePostCommit hl
  | pinReset periods => exact h.execPinReset periods
  | powerOnReset | refclkLoss => exact ⟨_, rfl, powerOn _ s⟩
  | resetnRelease | tick => exact h.next_ite _ fun _ => h.same rfl
  | linkUp n => exact h.next_ite _ fun _ => h.linkUp n
  | linkDown n => exact h.next_ite _ fun _ => h.linkDown n
  | reply n f => exact ⟨_, rfl, h.receiveFrame .reply n f⟩
  | holdoff n f => exact ⟨_, rfl, h.receiveFrame .holdoff n f⟩
  | probeAnswer n f => exact ⟨_, rfl, h.receiveFrame .probeAnswer n f⟩
  | attention n f => exact ⟨_, rfl, h.receiveFrame .attention n f⟩
  | quiesceAck n f => exact ⟨_, rfl, h.receiveFrame .quiesceAck n f⟩
  | charError n => exact h.next_ite _ fun _ => h.badCharacter n
  | formatError n | checkError n =>
    exact h.next_ite _ fun _ => (h.charTaken n _ _).still (State.still_report _ _)
  | receiveGapExpiry n => exact h.next_ite _ fun _ => h.gapExpiry n
  | discardIdleEnd n => exact h.next_ite _ fun _ => h.same rfl
  | transmitEnd n => exact h.next_ite _ fun _ => h.transmitEnd n
  | stoppingEnd n => exact h.next_ite _ fun _ => h.stoppingEnd n
  | replyDeadlineExpiry r => exact h.next_ite _ fun _ => h.replyExpiry r
  | segmentDeadlineExpiry r => exact h.next_ite _ fun _ => h.segmentExpiry r
  | holdoffDeadlineExpiry r => exact h.next_ite _ fun _ => (h.queueAtHead r).settle _
  | fenceExpiry st => exact h.next_ite _ fun _ => choose (h.table (s.sameTable_setEntry st _)) _
  | probeDue st => exact h.next_ite _ fun _ => probeChoose (h.table (s.sameTable_setEntry st _)) _
  | idleTimerExpiry => exact h.next_ite _ fun _ => h.idleExpiry
  | quiesceDeadlineExpiry n => exact h.next_ite _ fun _ => h.quiesceExpiry n
  | byteArrival b => exact h.next_ite _ fun _ => h.byteArrives hl.completion b
  | transactionEnd =>
    refine ⟨_, rfl, ?_⟩
    split
    · exact h
    · split
      · exact (h.riseEffect hl).closePort
      · exact h.closePort
  | goodCharacter n b => exact h.next_ite _ fun _ => h.goodCharacter n b
  | rxdTransition n =>
    refine ⟨_, rfl, ?_⟩
    split <;> exact h.same rfl
  | refclkReturn =>
    refine ⟨_, rfl, ?_⟩
    split
    · exact h
    · exact h.same rfl

/-- A step gives the effect of a command, or lets one period pass. -/
theorem step (h : s.SignalFit) (hl : s.Lawful) (hs : step s = .next t) : t.SignalFit := by
  have hexec : ∀ {u : State} {c : Instr}, Machine.exec c u = .next t → u.SignalFit → s.Keeps u → t.SignalFit := by
    intro u c hc hu k
    obtain ⟨v, hv, hfit⟩ := hu.exec k.lawful c
    obtain rfl : v = t := by rw [hc] at hv; cases hv; rfl
    exact hfit
  unfold Machine.step at hs
  split at hs
  · rename_i c cs _
    exact hexec hs (h.same rfl) (State.keeps_of_same hl (t := { s with pending := cs }) rfl rfl rfl rfl rfl rfl rfl
      fun c => c.congr rfl rfl)
  · unfold State.idleStep at hs
    split at hs
    · cases hs
      exact h.clockPeriod
    · exact hexec hs h (State.Keeps.refl hl)
    · exact hexec hs (h.same rfl) (State.keeps_of_same hl (t := { s with choices := s.choices + 1 }) rfl rfl rfl rfl rfl
        rfl rfl fun c => c.congr rfl rfl)

end State.SignalFit

/-- Settles O58: C and the timer move with the ends of records, the collections, the writes of COALESCE_COUNT, the
timer's expiry and the resets, and no other event touches them, the queue or a queued record's priority. -/
theorem completionSignalKept : Obligations.CompletionSignalKept := by
  intro s t hl hp h hs
  have hfit : s.SignalFit := ⟨hp.coalesceCount, h⟩
  exact (hfit.step hl hs).lawful

end Sys2Proof.Machine
end

section
/-!
The snapshot of a collection (R143 to R145): which record it names, and the response that it fixes. O18.
-/

namespace Sys2Proof.Machine

/-- The snapshot of a collection that names a record (R143, R144). -/
theorem State.arrived_nameRecord (s : State) (bs : List Byte) (r : RecordIdx) :
    (s.arrived bs).nameRecord r =
      { s with
        port := { s.port with
          bytes := bs, count := bs.length, taken := true, named := some r
          response := 0#8 :: (summaryBytes r (s.record r) ++ countBytes (s.record r) ++ (s.record r).reply) } } := rfl

/-! ### COLLECT NEXT (R143) -/

theorem exec_collectNext {s : State} (h : s.Awaiting [0xA9#8]) :
    exec .collectNext s = .next (takeCollectNext (s.arrived [0xA9#8])) :=
  congrArg Host.Outcome.next (State.arriveThrough_eq (o := .collectNext) takeCollectNext h)

theorem State.takeCollectNext_of_empty {s : State} (h : s.completionQ = []) :
    takeCollectNext s = s.respond [4#8] := by
  rw [takeCollectNext, h]
  rfl

/-- COLLECT NEXT names the record at the head of the queue. -/
theorem State.takeCollectNext_of_cons {s : State} {r : RecordIdx} {q : List RecordIdx} (h : s.completionQ = r :: q) :
    takeCollectNext s = s.nameRecord r := by
  rw [takeCollectNext, h]

/-! ### COLLECT (R144) -/

theorem exec_collect {s : State} {a b : Byte} (h : s.Awaiting [0xA8#8, a, b]) :
    exec (.collect a b) s = .next (takeCollect a b (s.arrived [0xA8#8, a, b])) :=
  congrArg Host.Outcome.next (State.arriveThrough_eq (o := .collect) (takeCollect a b) h)

/-- COLLECT of a record that is not terminal names none. -/
theorem State.takeCollect_of_live {s : State} {a b : Byte} {r : RecordIdx} (h : s.resolve a b = .current r)
    (hr : (s.record r).state.live = true) : takeCollect a b s = s.respond [5#8] := by
  rw [takeCollect, h]
  exact if_neg (by rw [RecState.not_terminal_of_live hr]; decide)

theorem State.takeCollect_of_terminal {s : State} {a b : Byte} {r : RecordIdx} (h : s.resolve a b = .current r)
    (hr : (s.record r).state.terminal = true) : takeCollect a b s = s.nameRecord r := by
  rw [takeCollect, h]
  exact if_pos hr

/-! ### The summary (R145, R201) -/

/-- The third byte of a summary is the code of the record's outcome. -/
theorem summaryBytes_of_outcome (r : RecordIdx) {x : Record} {o : ExchOutcome} (h : x.outcome = some o) :
    summaryBytes r x = [byteOf r.val, byteOf x.gen.val, o.code, x.status.getD 0#8] := by
  rw [summaryBytes, h]
  rfl

/-- Settles O18: COLLECT NEXT by the queue, COLLECT by what the handle resolves to and the record's state, and the
summary by the record's outcome. -/
theorem collectionSnapshot : Obligations.CollectionSnapshot := by
  refine ⟨fun s ha => ?_, fun s a b ha => ?_, fun r x o ho => ⟨?_, rfl⟩⟩
  · rw [exec_collectNext ha]
    refine ⟨fun hq => ?_, fun r q hq => ?_⟩
    · rw [State.takeCollectNext_of_empty (s := s.arrived _) hq]
      rfl
    · rw [State.takeCollectNext_of_cons (s := s.arrived _) hq, State.arrived_nameRecord]
      rfl
  · have hres : (s.arrived [0xA8#8, a, b]).resolve a b = s.resolve a b := rfl
    rw [exec_collect ha]
    refine ⟨fun h => ?_, fun h => ?_, fun r h => ⟨fun hlive => ?_, fun hterm => ?_⟩⟩
    · rw [takeCollect, hres, h]
      rfl
    · rw [takeCollect, hres, h]
      rfl
    · rw [State.takeCollect_of_live (s := s.arrived _) h hlive]
      rfl
    · rw [State.takeCollect_of_terminal (s := s.arrived _) h hterm, State.arrived_nameRecord]
      rfl
  · rw [summaryBytes_of_outcome r ho]
    cases o <;> rfl

end Sys2Proof.Machine
end

section
/-!
ACK ATTENTION and READ LINE: the snapshot each takes at its parameter byte, and what the rise of CSn does with it
(R155, R158, R170). O24, O25.
-/

namespace Sys2Proof.Machine

/-! ### ACK ATTENTION at its station byte (R158) -/

theorem exec_ackAttention {s : State} {b : Byte} (h : s.Awaiting [0xB6#8, b]) :
    exec (.ackAttention b) s = .next (takeAckAttention b (s.arrived [0xB6#8, b])) :=
  congrArg Host.Outcome.next (State.arriveThrough_eq (o := .ackAttention) (takeAckAttention b) h)

theorem takeAckAttention_of_out_of_range {b : Byte} (h : 64 ≤ b.toNat) (s : State) :
    takeAckAttention b s = s.commandError := by
  rw [takeAckAttention, stationOfByte_none h]

theorem takeAckAttention_of_presented {s : State} {b c : Byte} {st : StationIdx} (h : b.toNat = st.val)
    (hc : (s.entry st).presented = some c) : takeAckAttention b s = s.respond [0#8, c] := by
  simp only [takeAckAttention, stationOfByte_some h, hc]
  rfl

theorem takeAckAttention_of_no_cause {s : State} {b : Byte} {st : StationIdx} (h : b.toNat = st.val)
    (hc : (s.entry st).presented = none) : takeAckAttention b s = s.respond [8#8, 0xFF#8] := by
  simp only [takeAckAttention, stationOfByte_some h, hc]
  rfl

/-! ### The acknowledgement at the rise of CSn (R158) -/

theorem exec_attentionAcknowledge {s : State} {bs : List Byte} (h : s.Serving bs) (hr : s.port.ackReady = true) :
    exec .attentionAcknowledge s = .next (takeAcknowledge s).closePort :=
  congrArg Host.Outcome.next (State.riseWhen_eq takeAcknowledge h.portOpen h.served hr)

theorem takeAcknowledge_of_ready {s : State} {b : Byte} {st : StationIdx} (hr : s.port.ackReady = true)
    (hp : s.port.param 0 = b) (h : b.toNat = st.val) :
    takeAcknowledge s = s.setEntry st (s.entry st).acknowledged := by
  simp only [takeAcknowledge, if_pos hr, hp, stationOfByte_some h]

theorem takeAcknowledge_of_not_ready {s : State} (hr : s.port.ackReady = false) : takeAcknowledge s = s :=
  if_neg (by rw [hr]; exact Bool.false_ne_true)

theorem Port.ackReady_of_short_or_void {p : Port} (h : p.clocked < 2 ∨ p.ackVoid = true) : p.ackReady = false := by
  rcases h with h | h
  · simp [Port.ackReady, Nat.not_le.mpr h]
  · simp [Port.ackReady, h]

/-- Settles O24: the snapshot by the presented slot, the rise of CSn by whether the acknowledgement is ready. -/
theorem ackAttention : Obligations.AckAttention := by
  refine ⟨fun s b ha => ⟨fun hb => ?_, fun st hb => ⟨fun c hc => ?_, fun hc => ?_⟩⟩,
    fun s b c st h hcount hb ht hresp => ⟨fun hclk hv => ?_, fun hnot hcsn => ?_⟩⟩
  · rw [exec_ackAttention ha, takeAckAttention_of_out_of_range hb]
    rfl
  · rw [exec_ackAttention ha, takeAckAttention_of_presented (s := s.arrived _) hb hc]
    rfl
  · rw [exec_ackAttention ha, takeAckAttention_of_no_cause (s := s.arrived _) hb hc]
    rfl
  · have hbytes : s.port.bytes = [0xB6#8, b] := h.bytes_eq hcount
    have hready : s.port.ackReady = true :=
      Port.ackReady_eq (Port.op_of_bytes hbytes) ht (by rw [hresp]; rfl) hclk hv
    have hparam : s.port.param 0 = b := by rw [Port.param_of_bytes hbytes]; rfl
    rw [exec_attentionAcknowledge h hready, takeAcknowledge_of_ready hready hparam hb]
    rfl
  · have hrise : exec .transactionEnd s = .next (takeAcknowledge s).closePort :=
      State.transactionEnd_complete (o := .ackAttention) h rfl hcount hcsn
    rw [hrise, takeAcknowledge_of_not_ready (Port.ackReady_of_short_or_void hnot)]

/-! ### READ LINE at its line byte (R170, R201) -/

theorem exec_readLine {s : State} {b : Byte} (h : s.Awaiting [0xC1#8, b]) :
    exec (.readLine b) s = .next (takeReadLine b (s.arrived [0xC1#8, b])) :=
  congrArg Host.Outcome.next (State.arriveThrough_eq (o := .readLine) (takeReadLine b) h)

theorem takeReadLine_of_out_of_range {b : Byte} (h : 8 ≤ b.toNat) (s : State) :
    takeReadLine b s = s.commandError := by
  rw [takeReadLine, lineOfByte_none h]

theorem takeReadLine_of_line {b : Byte} {n : LineNo} (h : b.toNat = n.val) (s : State) :
    takeReadLine b s = s.respond (s.lineResponse n) := by
  simp only [takeReadLine, lineOfByte_some h]

/-- Bit `d` of a line's ack set is the ack mark of its drop `d` (R201). -/
theorem State.ackByte_getLsbD (s : State) (n : LineNo) (d : DropNo) :
    (s.ackByte n).getLsbD d.val = (s.entry (stationAt n d)).ackMark := by
  rw [State.ackByte, byteOf_getLsbD, decide_eq_true d.isLt, Bool.true_and, testBit_flagsValue]
  simp

/-- The response of READ LINE in the terms of R201: the codes of link, service and outcome written out. -/
theorem State.lineResponse_eq (s : State) (n : LineNo) : s.lineResponse n =
    [byteOf ((match (s.line n).link with | .off => 0 | .down => 1 | .up => 2) * 16 +
        (match (s.line n).service with | .opened => 0 | .draining => 1 | .awaitingAcks => 2 | .quiesced => 3)),
      byteOf ((if (s.line n).quiesceFinished then 128 else 0) +
        (match (s.line n).quiesceOutcome with | none => 0 | some .allAcked => 1 | some .deadline => 2)),
      s.ackByte n,
      byteOf (s.records.toList.countP (fun x => x.state == .queued && x.line == n)),
      byteOf (s.records.toList.countP (fun x => x.state.live && x.line == n))] := rfl

/-! ### The clearing of the marker at the rise of CSn (R170) -/

theorem exec_quiesceFinishedClear {s : State} {bs : List Byte} (h : s.Serving bs)
    (hr : s.port.finishedReported = true) :
    exec .quiesceFinishedClear s = .next (takeFinishedClear s).closePort :=
  congrArg Host.Outcome.next (State.riseWhen_eq takeFinishedClear h.portOpen h.served hr)

theorem takeFinishedClear_of_reported {s : State} {b : Byte} {n : LineNo} (hr : s.port.finishedReported = true)
    (hp : s.port.param 0 = b) (h : b.toNat = n.val) :
    takeFinishedClear s = s.setLine n { s.line n with quiesceFinished := false } := by
  simp only [takeFinishedClear, if_pos hr, hp, lineOfByte_some h]

theorem takeFinishedClear_of_not_reported {s : State} (hr : s.port.finishedReported = false) :
    takeFinishedClear s = s :=
  if_neg (by rw [hr]; exact Bool.false_ne_true)

theorem Port.finishedReported_of_clear_or_short {p : Port}
    (h : (p.response.getD 1 0#8).getLsbD 7 = false ∨ p.clocked < 2) : p.finishedReported = false := by
  rcases h with h | h
  · rw [Port.finishedReported, h, Bool.and_false, Bool.false_and]
  · rw [Port.finishedReported, decide_eq_false (Nat.not_le.mpr h), Bool.and_false]

/-- Settles O25: the snapshot by the line byte, the rise of CSn by whether the marker was reported and clocked out. -/
theorem readLineReports : Obligations.ReadLineReports := by
  refine ⟨fun s b ha => ⟨fun hb => ?_, fun n hb => ⟨s.ackByte n, ?_, s.ackByte_getLsbD n⟩⟩,
    fun s b n h hcount hb ht => ⟨fun hset hclk => ?_, fun hnot hcsn => ?_⟩⟩
  · rw [exec_readLine ha, takeReadLine_of_out_of_range hb]
    rfl
  · rw [exec_readLine ha, takeReadLine_of_line hb]
    exact congrArg (fun r => Host.Outcome.next ((s.arrived [0xC1#8, b]).respond r)) (s.lineResponse_eq n)
  · have hbytes : s.port.bytes = [0xC1#8, b] := h.bytes_eq hcount
    have hready : s.port.finishedReported = true := Port.finishedReported_eq (Port.op_of_bytes hbytes) ht hset hclk
    have hparam : s.port.param 0 = b := by rw [Port.param_of_bytes hbytes]; rfl
    rw [exec_quiesceFinishedClear h hready, takeFinishedClear_of_reported hready hparam hb]
  · have hrise : exec .transactionEnd s = .next (takeFinishedClear s).closePort :=
      State.transactionEnd_complete (o := .readLine) h rfl hcount hcsn
    rw [hrise, takeFinishedClear_of_not_reported (Port.finishedReported_of_clear_or_short hnot)]

end Sys2Proof.Machine
end

section
/-!
Fault Reporting: what one occurrence does to the account (R173), and the account as READ ERRORS answers it and
CLEAR ERRORS empties it (R178, R179, R201). O36, O37.
-/

namespace Sys2Proof.Machine

/-! ### One occurrence (R173) -/

theorem FaultAccount.take_capture (a : FaultAccount) (c : ErrorClass) (o : Occurrence) :
    (a.take c o).capture = some (a.capture.getD o) := by
  simp only [FaultAccount.take]
  cases a.capture <;> rfl

theorem FaultAccount.take_further_of_none {a : FaultAccount} (h : a.capture = none) (c : ErrorClass) (o : Occurrence) :
    (a.take c o).further = a.further := by
  simp only [FaultAccount.take, h]

theorem FaultAccount.take_further_of_some {a : FaultAccount} {first : Occurrence} (h : a.capture = some first)
    (c : ErrorClass) (o : Occurrence) : (a.take c o).further = min 255 (a.further + 1) := by
  simp only [FaultAccount.take, h]

/-- A report is one occurrence taken with the class that its kind has in this event. -/
theorem State.report_faults (s : State) (o : Occurrence) :
    (s.report o).faults = s.faults.take s.params.errorClass[o.kind.code.val] o := rfl

/-- Settles O37: each place of the account from its own law, the counter and the further count by whether they have
reached 255. -/
theorem occurrenceTaken : Obligations.OccurrenceTaken := by
  intro s o
  have hcounter : (s.report o).faults.counters[o.kind.code.val] =
      min 255 (s.faults.counters[o.kind.code.val] + 1) := by
    rw [State.report_faults, FaultAccount.take_counter, if_pos rfl]
  have hcapture : (s.report o).faults.capture = some (s.faults.capture.getD o) := FaultAccount.take_capture _ _ o
  refine ⟨fun k hk => ⟨?_, ?_⟩, fun hlt => ?_, fun hfull => ?_, fun halert => ?_, fun hnotice => ?_,
    fun hnone => ⟨?_, FaultAccount.take_further_of_none hnone _ o⟩, fun c hsome => ?_, rfl⟩
  · rw [State.report_faults, FaultAccount.take_counter, if_neg hk]
  · rw [State.report_faults, FaultAccount.take_alert, if_neg fun h => hk h.2]
  · rw [hcounter, Nat.min_eq_right hlt]
  · rw [hcounter, hfull]
    rfl
  · rw [State.report_faults, FaultAccount.take_alert, if_pos ⟨halert, rfl⟩]
  · rw [State.report_faults, FaultAccount.take_alert, hnotice, if_neg fun h => nomatch h.1]
  · rw [hcapture, hnone]
    rfl
  · have hfurther : (s.report o).faults.further = min 255 (s.faults.further + 1) :=
      FaultAccount.take_further_of_some hsome _ o
    refine ⟨?_, fun hlt => ?_, fun hfull => ?_⟩
    · rw [hcapture, hsome]
      rfl
    · rw [hfurther, Nat.min_eq_right hlt]
    · rw [hfurther, hfull]
      rfl

/-! ### The alert set as two bytes (R201) -/

/-- Two bytes, the high one first, hold the bits of the value that they were made from. -/
theorem highByte_append_lowByte_getLsbD (v i : Nat) :
    (highByte v ++ lowByte v).getLsbD i = (decide (i < 16) && v.testBit i) := by
  rw [BitVec.getLsbD_append, highByte, lowByte, byteOf_getLsbD, byteOf_getLsbD]
  by_cases hi : i < 8
  · have hlow : (v % 2 ^ 8).testBit i = v.testBit i := by
      rw [Nat.testBit_mod_two_pow, decide_eq_true hi, Bool.true_and]
    rw [if_pos hi, decide_eq_true hi, decide_eq_true (by omega : i < 16)]
    exact congrArg _ hlow
  · have hhigh : (v / 2 ^ 8).testBit (i - 8) = v.testBit i := by
      rw [Nat.testBit_div_two_pow, Nat.sub_add_cancel (Nat.not_lt.mp hi)]
    rw [if_neg hi, decide_eq_decide.mpr (by omega : i - 8 < 8 ↔ i < 16)]
    exact congrArg _ hhigh

/-- The two bytes of a run of flags hold the flags from bit 0 up, and 0 above them. -/
theorem flagsValue_bytes_getLsbD {fs : List Bool} (hfs : fs.length ≤ 16) (i : Nat) :
    (highByte (flagsValue fs) ++ lowByte (flagsValue fs)).getLsbD i = fs.getD i false := by
  rw [highByte_append_lowByte_getLsbD, testBit_flagsValue]
  by_cases hi : i < 16
  · rw [decide_eq_true hi, Bool.true_and]
  · rw [decide_eq_false hi, Bool.false_and, List.getD_eq_default _ _ (by omega)]

/-! ### The capture (R201) -/

/-- The bits of the capture's first byte, from bit 0 up: which fields the occurrence has [log 29]. -/
def Occurrence.flags (o : Occurrence) : List Bool :=
  [false, false, o.opcode.isSome, o.header.isSome, o.seq.isSome, o.drop.isSome, o.line.isSome, true]

theorem Occurrence.flags_getLsbD (o : Occurrence) (i : Nat) (hi : i < 8) :
    (byteOf (flagsValue o.flags)).getLsbD i = o.flags.getD i false := by
  rw [byteOf_getLsbD, decide_eq_true hi, Bool.true_and, testBit_flagsValue]

/-- The capture in the terms of R201. -/
theorem captureBytes_some (o : Occurrence) : captureBytes (some o) =
    [byteOf (flagsValue o.flags), byteOf o.kind.code.val,
      (o.line.map (fun n => byteOf n.val)).getD 0#8, (o.drop.map (fun d => byteOf d.val)).getD 0#8,
      (o.seq.map (fun q => byteOf q.val)).getD 0#8, (o.header.getD []).getD 0 0#8, (o.header.getD []).getD 1 0#8,
      (o.header.getD []).getD 2 0#8, (o.header.getD []).getD 3 0#8, o.opcode.getD 0#8] := by
  have hfirst : bitValue o.opcode.isSome 4 + bitValue o.header.isSome 8 + bitValue o.seq.isSome 16
      + bitValue o.drop.isSome 32 + bitValue o.line.isSome 64 + 128 = flagsValue o.flags := by
    simp only [Occurrence.flags, flagsValue, bitValue_eq, Bool.toNat_false, Bool.toNat_true]
    ring
  rw [captureBytes, hfirst]
  cases o.line <;> cases o.drop <;> cases o.seq <;> rfl

/-! ### READ ERRORS and CLEAR ERRORS (R178, R179) -/

theorem exec_readErrors {s : State} (h : s.Awaiting [0xD4#8]) :
    exec .readErrors s = .next (s.answered [0xD4#8] s.errorsResponse) :=
  congrArg Host.Outcome.next (State.arriveThrough_eq (o := .readErrors) takeReadErrors h)

theorem exec_clearErrors {s : State} (h : s.Serving [0xD5#8]) :
    exec .clearErrors s = .next ({ s with faults := FaultAccount.empty } : State).closePort :=
  congrArg Host.Outcome.next (State.riseThrough_eq takeClearErrors h)

/-- Settles O36: the alert set and the capture as runs of flags, the other fields as the response lists them. -/
theorem readAndClearErrors : Obligations.ReadAndClearErrors := by
  refine ⟨fun s ha => ⟨highByte (flagsValue s.faults.alerts.toList), lowByte (flagsValue s.faults.alerts.toList),
    exec_readErrors ha, fun k => ?_, fun j hj => ?_⟩, rfl, fun o => ?_, fun s h => exec_clearErrors h⟩
  · rw [flagsValue_bytes_getLsbD (by simp)]
    simp
  · rw [flagsValue_bytes_getLsbD (by simp), List.getD_eq_default _ _ (by simpa using hj)]
  · have hbit := o.flags_getLsbD
    exact ⟨_, captureBytes_some o, hbit 7 (by decide), hbit 6 (by decide), hbit 5 (by decide), hbit 4 (by decide),
      hbit 3 (by decide), hbit 2 (by decide), hbit 1 (by decide), hbit 0 (by decide)⟩

end Sys2Proof.Machine
end

section
/-!
What leaves no trace at the controller port: a command while the device does not operate, and the bytes while no
transaction is open. With them the resets from outside and the order of the queue: O1, O4, O5.
-/

namespace Sys2Proof.Machine

/-- Settles O1: the front of a queue that is not empty is the command a step runs. -/
theorem stepRunsFrontCommand : Obligations.StepRunsFrontCommand := by
  intro c cs s h
  rw [step, h]

/-! ### RESETn, the supply and REFCLK (R197, R205) -/

theorem exec_pinReset_of_long (s : State) {p : Nat} (h : 4 ≤ p) : exec (.pinReset p) s = .next s.pinReset :=
  congrArg Host.Outcome.next (if_pos h)

/-- An assertion of 1 to 3 periods acts or does not, as the free choice says, which is counted [log 7]. -/
theorem exec_pinReset_of_short (s : State) {p : Nat} (h0 : 0 < p) (h4 : p < 4) : exec (.pinReset p) s = .next
    (if Config.shortResetActs s.choices then State.pinReset { s with choices := s.choices + 1 }
      else { s with choices := s.choices + 1 }) :=
  congrArg Host.Outcome.next ((if_neg (Nat.not_le.mpr h4)).trans (if_neg (Nat.ne_of_gt h0)))

/-- Settles O4: by the length of the assertion, and the free choice for the lengths between; the other conditions of
operation by the branches of their commands. -/
theorem pinResetAndSupply : Obligations.PinResetAndSupply := by
  refine ⟨fun s p => ⟨exec_pinReset_of_long s, fun h => ?_, fun ⟨h0, h4⟩ => ?_⟩,
    fun s => ⟨rfl, rfl, rfl, fun h => ?_, fun h => ?_, fun _ => rfl⟩⟩
  · subst h
    rfl
  · rw [exec_pinReset_of_short s h0 h4, exec_pinReset_of_long _ (Nat.le_refl 4)]
    cases Config.shortResetActs s.choices with
    | true => exact .inr rfl
    | false => exact .inl rfl
  · exact congrArg Host.Outcome.next (if_pos h)
  · exact congrArg Host.Outcome.next (if_neg (by rw [h]; decide))

/-! ### No transaction is open (R183, R197) -/

theorem State.portOpen_of_none_open {s : State} (h : s.operating = false ∨ s.port.phase ≠ .opened) :
    s.portOpen = false := by
  rw [State.portOpen, Bool.and_eq_false_iff, beq_eq_false_iff_ne]
  exact h

section
variable {s : State} (hp : s.portOpen = false)
include hp

/-- Without an open transaction no byte of an instruction arrives. -/
theorem State.arriveThrough_of_none_open (o : Opcode) (ps : List Byte) (take : State → State) :
    s.arriveThrough o ps take = s :=
  if_neg (by simp [State.awaits, hp])

theorem State.riseThrough_of_none_open (bs : List Byte) (effect : State → State) : s.riseThrough bs effect = s :=
  if_neg (by simp [State.carries, hp])

theorem State.riseWhen_of_none_open (c : Bool) (effect : State → State) : s.riseWhen c effect = s :=
  if_neg (by simp [hp])

theorem exec_byteArrival_of_none_open (b : Byte) : exec (.byteArrival b) s = .next s :=
  congrArg Host.Outcome.next (if_neg (by simp [hp]))

theorem exec_readStationChanges_of_none_open : exec .readStationChanges s = .next s :=
  congrArg Host.Outcome.next (if_neg (by simp [State.carries, hp]))

theorem exec_unknownOpcode_of_none_open (b : Byte) : exec (.unknownOpcode b) s = .next s :=
  congrArg Host.Outcome.next ((ite_congr rfl (fun _ => State.riseThrough_of_none_open hp _ _) fun _ => rfl).trans
    (ite_self s))

/-- The rise of CSn ends the wait of a port without an open transaction, and does nothing else (R197). -/
theorem exec_transactionEnd_of_none_open (hcsn : s.pins.csnHigh = false) :
    exec .transactionEnd s = .next s.closePort :=
  congrArg Host.Outcome.next ((if_neg (by rw [hcsn]; decide)).trans (if_neg (by rw [hp]; decide)))

end

/-! ### The device does not operate (R197) -/

section
variable {s : State} (ho : s.operating = false)
include ho

theorem State.forming_of_stopped (n : LineNo) : s.forming n = false := by
  rw [State.forming, ho, Bool.false_and]

theorem State.receivable_of_stopped (n : LineNo) (body : List Byte) : s.receivable n body = false := by
  rw [State.receivable, State.forming_of_stopped ho, Bool.false_and]

theorem State.receiveFrame_of_stopped (k : FrameKind) (n : LineNo) (f : UpFields) (take : State → State) :
    s.receiveFrame k n f take = s :=
  if_neg (by simp [State.receivable_of_stopped ho])

/-- While the device does not operate, each command but the edges of the pins and the conditions of operation leaves no
trace: those of the port as no transaction is open, those of a line as its receiver forms no character, and the timed
ones as no clock runs. -/
theorem exec_of_stopped {c : Instr} (hrxd : ∀ n, c ≠ .rxdTransition n) (hfall : c ≠ .transactionStart)
    (hrise : c ≠ .transactionEnd) (hpin : ∀ p, c ≠ .pinReset p) (hrelease : c ≠ .resetnRelease)
    (hsupply : c ≠ .powerOnReset) (hloss : ∀ l, c ≠ .refclkLoss l) (hreturn : c ≠ .refclkReturn) :
    exec c s = .next s := by
  have hp : s.portOpen = false := State.portOpen_of_none_open (.inl ho)
  cases c with
  | rxdTransition n => exact absurd rfl (hrxd n)
  | transactionStart => exact absurd rfl hfall
  | transactionEnd => exact absurd rfl hrise
  | pinReset p => exact absurd rfl (hpin p)
  | resetnRelease => exact absurd rfl hrelease
  | powerOnReset => exact absurd rfl hsupply
  | refclkLoss l => exact absurd rfl (hloss l)
  | refclkReturn => exact absurd rfl hreturn
  | readStatus | postAdmission | cancel | collect | collectNext | readRecord | readStation | enableStation
  | disableStation | ackAttention | readLine | quiesceLine | resumeLine | readParameter | readErrors =>
    exact congrArg Host.Outcome.next (State.arriveThrough_of_none_open hp _ _ _)
  | lineReset | setParameter | lineEnableOn | lineEnableOff | setLineRate | setWindowLimit | setTickDivider
  | setUrgentReserve | setCoalesceCount | setNoteEnable | setErrorClass | setFaultEnable | clearErrors | softReset =>
    exact congrArg Host.Outcome.next (State.riseThrough_of_none_open hp _ _)
  | postCommit | collection | stationChangesClear | attentionAcknowledge | quiesceFinishedClear | shortInstruction =>
    exact congrArg Host.Outcome.next (State.riseWhen_of_none_open hp _ _)
  | readStationChanges => exact exec_readStationChanges_of_none_open hp
  | unknownOpcode b => exact exec_unknownOpcode_of_none_open hp b
  | byteArrival b => exact exec_byteArrival_of_none_open hp b
  | reply | holdoff | probeAnswer | attention | quiesceAck =>
    exact congrArg Host.Outcome.next (State.receiveFrame_of_stopped ho _ _ _ _)
  | formatError | checkError =>
    exact congrArg Host.Outcome.next (if_neg (by simp [State.receivable_of_stopped ho]))
  | goodCharacter | charError | receiveGapExpiry | discardIdleEnd =>
    exact congrArg Host.Outcome.next (if_neg (by simp [State.forming_of_stopped ho]))
  | lineResetAct | resetPeriodEnd | tick | linkUp | linkDown | transmitEnd | stoppingEnd | replyDeadlineExpiry
  | segmentDeadlineExpiry | holdoffDeadlineExpiry | fenceExpiry | probeDue | idleTimerExpiry | quiesceDeadlineExpiry =>
    exact congrArg Host.Outcome.next (if_neg (by simp [ho]))

end

/-- Settles O5: `exec_of_stopped`, no clock that runs, and the port without an open transaction. -/
theorem noOperationNoTrace : Obligations.NoOperationNoTrace := by
  refine ⟨fun c s ho hrxd hfall hrise hpin hrelease hsupply hloss hreturn =>
      exec_of_stopped ho hrxd hfall hrise hpin hrelease hsupply hloss hreturn,
    fun s ho => ⟨if_neg (by simp [ho]), if_neg (by simp [ho])⟩, fun s h => ?_, fun s => ⟨fun hhigh => ?_, fun hlow => ?_⟩⟩
  · have hp := State.portOpen_of_none_open h
    exact ⟨exec_byteArrival_of_none_open hp, exec_transactionEnd_of_none_open hp⟩
  · exact congrArg Host.Outcome.next (if_pos hhigh)
  · exact congrArg Host.Outcome.next (if_neg (by rw [hlow]; decide))

end Sys2Proof.Machine
end

section
/-!
Transactions that are not served: those opened with RESETTING at 1, unknown opcodes and short instructions: O10, O11.
-/

namespace Sys2Proof.Machine

/-! ### COMMAND_ERROR at the rise of CSn (R187, R188) -/

/-- An instruction with a parameter byte missing is short (R187). -/
theorem Port.short_of_bytes {p : Port} {o : Opcode} {ps : List Byte} (hb : p.bytes = o.code :: ps)
    (hl : ps.length < o.paramCount) : p.short = true := by
  rw [Port.short, Port.op_of_bytes hb, hb]
  simp only [List.length_cons, decide_eq_true_eq]
  omega

/-- COMMAND_ERROR carries the opcode byte of the transaction (R181). -/
theorem State.commandError_of_bytes {s : State} {b : Byte} {ps : List Byte} (h : s.port.bytes = b :: ps) :
    s.commandError = s.report (commandErrorOf b) := by
  rw [State.commandError, h, List.getD_cons_zero]

theorem exec_unknownOpcode {s : State} {f : Byte} (hf : Opcode.ofByte f = none) (h : s.Serving [f]) :
    exec (.unknownOpcode f) s = .next (s.report (commandErrorOf f)).closePort :=
  congrArg Host.Outcome.next ((if_pos (by rw [hf]; rfl)).trans (State.riseThrough_eq State.commandError h))

theorem State.riseEffect_of_short {s : State} {o : Opcode} {ps : List Byte} (hs : s.port.status.getLsbD 2 = false)
    (hb : s.port.bytes = o.code :: ps) (hl : ps.length < o.paramCount) : s.riseEffect = s.commandError := by
  rw [State.riseEffect, Port.not_ignored _ hs]
  simp only [hb, List.isEmpty_cons, Bool.or_self, Port.op_of_bytes hb, Port.short_of_bytes hb hl, Bool.false_eq_true,
    if_false, if_true]

/-- Settles O11: the unknown opcode by its own row, the short instruction by its row and by the rise of CSn, and a
transaction without a byte by that rise alone. -/
theorem commandErrorsAtRise : Obligations.CommandErrorsAtRise := by
  refine ⟨fun s f hf h => exec_unknownOpcode hf h, fun s o ps h hc hl => ?_, fun s h hcsn => ?_⟩
  · have hb : s.port.bytes = o.code :: ps := h.bytes_eq (by rw [hc, List.length_cons, Nat.add_comm])
    have hshort := Port.short_of_bytes hb hl
    rw [← State.commandError_of_bytes hb]
    refine ⟨congrArg Host.Outcome.next ?_, fun hcsn => ?_⟩
    · rw [State.riseWhen_eq takeShort h.portOpen h.served (by rw [Port.endsShort, hshort, Bool.true_or]), takeShort,
        if_pos hshort]
    · rw [State.exec_transactionEnd h hcsn, State.riseEffect_of_short h.served hb hl]
  · rw [State.exec_transactionEnd h hcsn, State.riseEffect, h.bytes_eq (Nat.zero_le _)]
    rfl

/-! ### Ignored transactions (R190, R194) -/

/-- The second state is the first with another port and another level of CSn, and nothing else. -/
def State.PortAlone (s t : State) : Prop := ∃ p q, t = { s with port := p, pins := { s.pins with csnHigh := q } }

theorem State.PortAlone.next {s t : State} (h : s.PortAlone t) :
    ∃ p q, (Host.Outcome.next t : Host.Outcome State Fault Refusal) =
      .next { s with port := p, pins := { s.pins with csnHigh := q } } := by
  obtain ⟨p, q, rfl⟩ := h
  exact ⟨p, q, rfl⟩

theorem State.portAlone_refl (s : State) : s.PortAlone s := ⟨_, _, rfl⟩

theorem State.portAlone_port (s : State) (p : Port) : s.PortAlone { s with port := p } := ⟨_, _, rfl⟩

theorem State.PortAlone.trans {s t u : State} (h : s.PortAlone t) (k : t.PortAlone u) : s.PortAlone u := by
  obtain ⟨p, q, rfl⟩ := h
  obtain ⟨p', q', rfl⟩ := k
  exact ⟨p', q', rfl⟩

theorem State.portAlone_closePort (s : State) : s.PortAlone s.closePort := ⟨_, _, rfl⟩

/-- With RESETTING shown at 1, READ STATUS alone is not ignored (R194). -/
theorem Port.ignored_of_resetting {p : Port} (h : p.status.getLsbD 2 = true) :
    p.ignored = true ↔ p.op ≠ some .readStatus := by
  rw [Port.ignored, h, Bool.true_and, bne_iff_ne]

theorem Port.op_of_heard {p : Port} (h : p.status.getLsbD 2 = true) (hi : ¬ p.ignored = true) :
    p.op = some .readStatus :=
  Classical.not_not.mp fun hop => hi ((Port.ignored_of_resetting h).mpr hop)

/-- READ STATUS has no parameter bytes, so it is never short (R187). -/
theorem Port.not_short_of_readStatus {p : Port} (h : p.op = some .readStatus) : p.short = false := by
  have hb : p.bytes ≠ [] := fun hb => by rw [Port.op, hb] at h; cases h
  simpa [Port.short, h, Opcode.paramCount, Nat.lt_one_iff] using hb

/-- A short end is that of an instruction with parameter bytes, or of a POST (R32, R187). -/
theorem Port.not_endsShort_of_readStatus {p : Port} (h : p.op = some .readStatus) : p.endsShort = false := by
  rw [Port.endsShort, Port.not_short_of_readStatus h, h]
  rfl

/-- The rise of CSn on a READ STATUS has no effect of its own (R190). -/
theorem State.riseEffect_of_readStatus {s : State} (h : s.port.op = some .readStatus) : s.riseEffect = s := by
  rw [State.riseEffect]
  split
  · rfl
  · simp only [h, Port.not_short_of_readStatus h, Bool.false_eq_true, if_false, takeRise]

/-- The state in which a byte that the port has room for has been stored and counted. -/
def State.storeByte (b : Byte) (s : State) : State :=
  { s with port := { s.port with bytes := s.port.bytes ++ [b], count := s.port.count + 1 } }

theorem State.byteArrives_of_ignored {s : State} {b : Byte} (hroom : s.port.bytes.length < s.port.storeRoom)
    (hi : (s.storeByte b).port.ignored = true) : s.byteArrives b = s.storeByte b :=
  (if_pos hroom).trans (if_pos hi)

/-- The last parameter byte of an instruction that is not ignored takes its decision (R185). -/
theorem State.byteArrives_of_op {s : State} {b : Byte} {o : Opcode} (hroom : s.port.bytes.length < s.port.storeRoom)
    (hi : ¬ (s.storeByte b).port.ignored = true) (hop : (s.storeByte b).port.op = some o) : s.byteArrives b =
      if (s.storeByte b).port.bytes.length = 1 + o.paramCount then
        takeDecision o (s.storeByte b).port.param (s.storeByte b)
      else s.storeByte b := by
  have hstored : Port.op { s.port with bytes := s.port.bytes ++ [b], count := s.port.count + 1 } = some o := hop
  refine (if_pos hroom).trans ((if_neg hi).trans ?_)
  simp only [hstored]
  rfl

theorem State.portAlone_transactionStart (s : State) :
    ∃ p q, exec .transactionStart s = .next { s with port := p, pins := { s.pins with csnHigh := q } } := by
  refine State.PortAlone.next ?_
  split
  · split
    · exact ⟨_, _, rfl⟩
    · exact ⟨_, _, rfl⟩
  · exact s.portAlone_refl

section
variable {s : State} (hr : s.port.status.getLsbD 2 = true)
include hr

/-- The bytes of an instruction other than READ STATUS arrive, and no decision is taken. -/
theorem State.portAlone_arriveThrough {o : Opcode} (ho : o ≠ .readStatus) (ps : List Byte) (take : State → State) :
    s.PortAlone (s.arriveThrough o ps take) := by
  have hop : (s.port.having (o.code :: ps)).op = some o := Port.op_of_bytes rfl
  have hi : (s.port.having (o.code :: ps)).ignored = true :=
    (Port.ignored_of_resetting (p := s.port.having _) hr).mpr (by rw [hop]; exact fun h => ho (Option.some.inj h))
  rw [State.arriveThrough]
  split
  · exact ⟨_, _, if_pos hi⟩
  · exact s.portAlone_refl

/-- CSn rises on an opcode byte other than that of READ STATUS without effect. -/
theorem State.portAlone_riseThrough {f : Byte} (hf : Opcode.ofByte f ≠ some .readStatus) (bs : List Byte)
    (effect : State → State) : s.PortAlone (s.riseThrough (f :: bs) effect) := by
  have hi : (s.port.havingAtLeast (f :: bs)).ignored = true :=
    (Port.ignored_of_resetting (p := s.port.havingAtLeast _) hr).mpr hf
  rw [State.riseThrough]
  split
  · dsimp only
    rw [if_pos hi]
    exact (s.portAlone_port _).trans (State.portAlone_closePort _)
  · exact s.portAlone_refl

/-- A row that names a part of the rise of CSn asks for an instruction of its own, which is not READ STATUS. -/
theorem State.portAlone_riseWhen {c : Bool} (hc : s.port.op = some .readStatus → c = false)
    (effect : State → State) : s.PortAlone (s.riseWhen c effect) := by
  have hno : s.riseWhen c effect = s := by
    refine if_neg ?_
    by_cases hop : s.port.op = some .readStatus
    · simp [hc hop]
    · simp [(Port.ignored_of_resetting hr).mpr hop]
  rw [hno]
  exact s.portAlone_refl

theorem State.portAlone_setRise (number index : Byte) (v : BitVec 16) : s.PortAlone (s.setRise number index v) :=
  State.portAlone_riseThrough hr (by decide) _ _

theorem State.portAlone_readStationChanges :
    ∃ p q, exec .readStationChanges s = .next { s with port := p, pins := { s.pins with csnHigh := q } } := by
  have hop : (s.port.havingAtLeast [Opcode.readStationChanges.code]).op = some .readStationChanges := rfl
  have hi : (s.port.havingAtLeast [Opcode.readStationChanges.code]).ignored = true :=
    (Port.ignored_of_resetting (p := s.port.havingAtLeast _) hr).mpr (by rw [hop]; decide)
  refine State.PortAlone.next ?_
  split
  · exact ⟨_, _, if_pos hi⟩
  · exact s.portAlone_refl

theorem State.portAlone_unknownOpcode (f : Byte) :
    ∃ p q, exec (.unknownOpcode f) s = .next { s with port := p, pins := { s.pins with csnHigh := q } } := by
  refine State.PortAlone.next ?_
  split
  · rename_i hf
    exact State.portAlone_riseThrough hr (by rw [Option.isNone_iff_eq_none.mp hf]; nofun) _ _
  · exact s.portAlone_refl

/-- A byte is counted, and stored where the port has room; no decision but that of READ STATUS follows, which fixes a
response. -/
theorem State.portAlone_byteArrival (b : Byte) :
    ∃ p q, exec (.byteArrival b) s = .next { s with port := p, pins := { s.pins with csnHigh := q } } := by
  refine State.PortAlone.next ?_
  split
  · by_cases hroom : s.port.bytes.length < s.port.storeRoom
    · by_cases hi : (s.storeByte b).port.ignored = true
      · rw [State.byteArrives_of_ignored hroom hi]
        exact s.portAlone_port _
      · rw [State.byteArrives_of_op hroom hi (Port.op_of_heard (p := (s.storeByte b).port) hr hi)]
        split
        · exact ⟨_, _, rfl⟩
        · exact s.portAlone_port _
    · have hcounted : s.byteArrives b =
          if s.countByte.port.ignored then s.countByte else s.countByte.excessByte s.port.count b := if_neg hroom
      rw [hcounted]
      split
      · exact s.portAlone_port _
      · have hop : s.countByte.port.op = some .readStatus := Port.op_of_heard (p := s.countByte.port) hr ‹_›
        exact ⟨_, _, State.excessByte_other (s := s.countByte) s.port.count b hop nofun nofun⟩
  · exact s.portAlone_refl

theorem State.portAlone_transactionEnd :
    ∃ p q, exec .transactionEnd s = .next { s with port := p, pins := { s.pins with csnHigh := q } } := by
  have hnone : s.riseEffect = s := by
    by_cases hop : s.port.op = some .readStatus
    · exact State.riseEffect_of_readStatus hop
    · exact if_pos (by rw [(Port.ignored_of_resetting hr).mpr hop, Bool.or_true])
  refine State.PortAlone.next ?_
  rw [hnone]
  split
  · exact s.portAlone_refl
  · split
    · exact s.portAlone_closePort
    · exact s.portAlone_closePort

end

/-- An ignored transaction shows 0xFF after its status byte (R194). -/
theorem State.sdo_of_ignored {s : State} (ho : s.operating = true) (hp : s.port.phase = .opened)
    (hc : 0 < s.port.count) (hi : s.port.ignored = true) : s.sdo = some 0xFF#8 := by
  simp only [State.sdo, ho, hp, and_self, if_true, if_neg (Nat.ne_of_gt hc), hi]
  rfl

/-! ### READ STATUS, whatever its status byte showed (R190, R194) -/

theorem Port.heard_of_readStatus {p : Port} (h : p.op = some .readStatus) : p.ignored = false := by
  rw [Port.ignored, h, bne_self_eq_false, Bool.and_false]

theorem exec_readStatus {s : State} (hp : s.portOpen = true) (hc : s.port.count = 0) (hb : s.port.bytes = []) :
    exec .readStatus s = .next (s.answered [0xA1#8] s.statusResponse) := by
  have ha : s.awaits [Opcode.readStatus.code] = true := by simp [State.awaits, hp, hc, hb]
  have hi : (s.port.having [Opcode.readStatus.code]).ignored = false := Port.heard_of_readStatus rfl
  refine congrArg Host.Outcome.next ((if_pos ha).trans ?_)
  dsimp only
  rw [hi]
  rfl

/-- The opcode byte of READ STATUS takes it, as its row does (R190). -/
theorem exec_byteArrival_readStatus {s : State} (hp : s.portOpen = true) (hc : s.port.count = 0)
    (hb : s.port.bytes = []) : exec (.byteArrival 0xA1#8) s = exec .readStatus s := by
  have hroom : s.port.bytes.length < s.port.storeRoom := by simp [Port.storeRoom, hb]
  have hstored : s.storeByte 0xA1#8 = s.arrived [0xA1#8] :=
    congrArg (fun p => { s with port := p }) (Port.having_append s.port (pre := []) 0xA1#8 hb hc)
  have hop : (s.storeByte 0xA1#8).port.op = some .readStatus := by rw [hstored]; rfl
  have hheard : ¬ (s.storeByte 0xA1#8).port.ignored = true := by rw [Port.heard_of_readStatus hop]; decide
  rw [exec_readStatus hp hc hb]
  refine congrArg Host.Outcome.next ((if_pos hp).trans ?_)
  rw [State.byteArrives_of_op hroom hheard hop, hstored]
  rfl

section
variable {s : State} (hp : s.portOpen = true) (hb : s.port.bytes = [0xA1#8]) (hc : 1 ≤ s.port.count)
include hp hb

/-- A byte after the opcode byte of READ STATUS clocks a response byte out (R183, R185). -/
theorem exec_byteArrival_of_readStatus (b : Byte) : exec (.byteArrival b) s = .next
    { s with port := { s.port with count := s.port.count + 1, clocked := s.port.clocked + 1 } } := by
  have hop : s.port.op = some .readStatus := Port.op_of_bytes (o := .readStatus) hb
  have hroom : ¬ s.port.bytes.length < s.port.storeRoom := by
    rw [Port.storeRoom_of_op hop, hb]
    decide
  have hi : s.countByte.port.ignored = false := Port.heard_of_readStatus hop
  have hcounted : s.byteArrives b =
      if s.countByte.port.ignored then s.countByte else s.countByte.excessByte s.port.count b := if_neg hroom
  refine congrArg Host.Outcome.next ((if_pos hp).trans ?_)
  rw [hcounted, hi, if_neg Bool.false_ne_true]
  exact State.excessByte_other (s := s.countByte) _ b hop (by decide) (by decide)

theorem exec_transactionEnd_of_readStatus (hcsn : s.pins.csnHigh = false) :
    exec .transactionEnd s = .next s.closePort := by
  have hnone : s.riseEffect = s := State.riseEffect_of_readStatus (Port.op_of_bytes (o := .readStatus) hb)
  refine congrArg Host.Outcome.next ((if_neg (by rw [hcsn]; decide)).trans ((if_pos hp).trans ?_))
  rw [hnone]

include hc in
theorem State.sdo_of_readStatus : s.sdo = some (s.port.response.getD s.port.clocked 0xFF#8) := by
  have hop : s.port.op = some .readStatus := Port.op_of_bytes (o := .readStatus) hb
  simp only [State.portOpen, Bool.and_eq_true, beq_iff_eq] at hp
  have hall : ¬ s.port.count < 1 + Opcode.readStatus.paramCount := Nat.not_lt.mpr hc
  simp only [State.sdo, hp, and_self, if_true, if_neg (Nat.ne_of_gt hc), Port.heard_of_readStatus hop,
    Bool.false_eq_true, if_false, hop, if_neg hall, State.responseByte_of_ne s (o := .readStatus) (by decide)]
  rfl

end

/-- Settles O10: the commands of the port by how they bring their bytes, and READ STATUS served. -/
theorem resettingIgnoresInstructions : Obligations.ResettingIgnoresInstructions := by
  intro s hopen hr
  have harrive : ∀ (o : Opcode) (ps : List Byte) (take : State → State), o ≠ .readStatus → _ :=
    fun o ps take ho => (State.portAlone_arriveThrough hr ho ps take).next
  have hrise : ∀ (f : Byte) (bs : List Byte) (effect : State → State), Opcode.ofByte f ≠ some .readStatus → _ :=
    fun f bs effect hf => (State.portAlone_riseThrough hr hf bs effect).next
  have hwhen : ∀ (c : Bool) (effect : State → State), (s.port.op = some .readStatus → c = false) → _ :=
    fun c effect hc => (State.portAlone_riseWhen hr hc effect).next
  have hset : ∀ (number index : Byte) (v : BitVec 16), _ :=
    fun number index v => (State.portAlone_setRise hr number index v).next
  refine ⟨?_, fun a b c d v => ?_, fun n a v => ?_, fun hc hop ho => ?_, fun ho => ?_⟩
  · simp only [List.forall_mem_cons]
    exact ⟨s.portAlone_transactionStart, State.portAlone_transactionEnd hr, harrive .collectNext _ _ nofun,
      hwhen _ _ fun hop => by rw [Port.summaryClocked, hop]; rfl, hwhen _ _ fun hop => by rw [hop]; rfl,
      State.portAlone_readStationChanges hr, hwhen _ _ fun hop => by rw [hop]; rfl,
      hwhen _ _ fun hop => by rw [Port.ackReady, hop]; rfl, hwhen _ _ fun hop => by rw [Port.finishedReported, hop]; rfl,
      harrive .readErrors _ _ nofun, hrise _ _ _ (by decide), hrise _ _ _ (by decide),
      hwhen _ _ Port.not_endsShort_of_readStatus, nofun⟩
  · simp only [List.forall_mem_cons]
    exact ⟨harrive .post _ _ nofun, harrive .cancel _ _ nofun, harrive .collect _ _ nofun,
      harrive .readRecord _ _ nofun, harrive .readStation _ _ nofun, harrive .enableStation _ _ nofun,
      harrive .disableStation _ _ nofun, harrive .ackAttention _ _ nofun, harrive .readLine _ _ nofun,
      harrive .quiesceLine _ _ nofun, harrive .resumeLine _ _ nofun, hrise _ _ _ (by decide), hset a b v,
      harrive .readParameter _ _ nofun, State.portAlone_unknownOpcode hr a, State.portAlone_byteArrival hr a, nofun⟩
  · simp only [List.forall_mem_cons]
    exact ⟨hset _ _ _, hset _ _ _, hset _ _ _, hset _ _ _, hset _ _ _, hset _ _ _, hset _ _ _, hset _ _ _, hset _ _ _,
      hset _ _ _, nofun⟩
  · exact State.sdo_of_ignored ho hopen hc ((Port.ignored_of_resetting hr).mpr hop)
  · have hp : s.portOpen = true := by rw [State.portOpen, ho, hopen]; rfl
    exact ⟨State.sdo_of_first ho hopen, exec_byteArrival_readStatus hp, fun hb hc =>
      ⟨exec_byteArrival_of_readStatus hp hb, State.sdo_of_readStatus hp hb hc, exec_transactionEnd_of_readStatus hp hb⟩⟩

end Sys2Proof.Machine
end

section
/-!
The Parameter Store at the port: the table of the parameters, SET PARAMETER, READ PARAMETER and READ STATUS: O32, O35.
-/

namespace Sys2Proof.Machine

/-! ### SET PARAMETER (R192, R204) -/

theorem Param.ofNumber_of_none {k : Nat} (h : k = 0 ∨ 21 < k) : Param.ofNumber k = none := by
  rcases h with rfl | h
  · rfl
  · obtain ⟨m, rfl⟩ := Nat.exists_eq_add_of_le' h
    rfl

/-- SET PARAMETER of a number that names no parameter is refused (R192). -/
theorem State.setRise_unnumbered {s : State} {number index : Byte} {v : BitVec 16}
    (h : s.Serving (setBytes number index v)) (hp : Param.ofNumber number.toNat = none) :
    s.setRise number index v = (s.report (commandErrorOf 0xD1#8)).closePort := by
  have hcheck : State.checkedParam { s with port := s.port.havingAtLeast (setBytes number index v) } number.toNat
      index.toNat v.toNat = none := by rw [State.checkedParam, hp]
  rw [State.setRise, State.riseThrough_eq _ h, State.writeParameter, hcheck]
  rfl

/-- Every parameter but LINE_RATE and WINDOW_LIMIT may be written at any time, and these while their line is OFF (R192). -/
theorem State.writableNow_iff (s : State) {p : Param} {i : Nat} (hi : i < p.indexCount) : s.writableNow p i = true ↔
    (p = .lineRate ∨ p = .windowLimit → ∀ n : LineNo, i = n.val → (s.line n).link = .off) := by
  cases p with
  | lineRate =>
    refine ⟨fun h _ n hn => (s.writableNow_line n).1.mp (hn ▸ h), fun h => ?_⟩
    exact (s.writableNow_line ⟨i, hi⟩).1.mpr (h (.inl rfl) ⟨i, hi⟩ rfl)
  | windowLimit =>
    refine ⟨fun h _ n hn => (s.writableNow_line n).2.mp (hn ▸ h), fun h => ?_⟩
    exact (s.writableNow_line ⟨i, hi⟩).2.mpr (h (.inr rfl) ⟨i, hi⟩ rfl)
  | _ => simp [State.writableNow]

/-- LINE_ENABLE and COALESCE_COUNT alone act in the event of their write (R192). -/
theorem State.afterWrite_of_stored {p : Param} (hl : p ≠ .lineEnable) (hc : p ≠ .coalesceCount) (i v : Nat) (s : State) :
    s.afterWrite p i v = s := by
  cases p with
  | lineEnable => exact absurd rfl hl
  | coalesceCount => exact absurd rfl hc
  | _ => rfl

/-- Settles O32: the table row by row, the rows that are a SET PARAMETER by their definition, and the checks of R192 by
`State.setRise_refused` and `State.setRise_stored`. -/
theorem setParameter : Obligations.SetParameter := by
  refine ⟨?_, fun k => Param.ofNumber_of_none,
    fun s n k v => ⟨rfl, rfl, rfl, rfl, rfl, rfl, rfl, rfl, rfl, rfl⟩,
    fun s a b v h => ⟨fun hp => congrArg _ (State.setRise_unnumbered h hp), fun p hp =>
      ⟨fun hbad => ?_, fun n hn hline hon => ?_, fun hi hl hg hoff hle hcc => ?_⟩⟩⟩
  · intro k p count least greatest hrow
    generalize hx : (k, p, count, least, greatest) = x at hrow
    fin_cases hrow <;> cases hx <;> exact ⟨rfl, rfl, rfl, rfl⟩
  · refine congrArg _ (State.setRise_refused h hp ?_)
    omega
  · refine congrArg _ (State.setRise_refused h hp ?_)
    rintro ⟨hi, -, -, hw⟩
    exact hon ((s.writableNow_iff hi).mp hw hline n hn)
  · exact congrArg _ (State.setRise_stored h hp hi ⟨hl, hg⟩ ((s.writableNow_iff hi).mpr hoff)
      (State.afterWrite_of_stored hle hcc _ _))

/-! ### READ PARAMETER and READ STATUS (R190, R193, R194) -/

theorem exec_readParameter {s : State} {a b : Byte} (h : s.Awaiting [0xD2#8, a, b]) :
    exec (.readParameter a b) s = .next (takeReadParameter a b (s.arrived [0xD2#8, a, b])) :=
  congrArg Host.Outcome.next (State.arriveThrough_eq (o := .readParameter) (takeReadParameter a b) h)

/-- A number or an index that names no parameter is COMMAND_ERROR (R193). -/
theorem takeReadParameter_refused {a b : Byte} (s : State)
    (h : ∀ p, Param.ofNumber a.toNat = some p → p.indexCount ≤ b.toNat) : takeReadParameter a b s = s.commandError := by
  unfold takeReadParameter
  split
  · rfl
  · rename_i p hp
    exact if_neg (Nat.not_lt.mpr (h p hp))

theorem takeReadParameter_answers {a b : Byte} {p : Param} (s : State) (hp : Param.ofNumber a.toNat = some p)
    (hi : b.toNat < p.indexCount) : takeReadParameter a b s = s.respond (s.parameterResponse p b.toNat) := by
  simp only [takeReadParameter, hp]
  exact if_pos hi

/-- The bytes of the lines, in ascending order of the lines (R190). -/
theorem State.map_lines (s : State) {α : Type} (f : Line → α) :
    s.lines.toList.map f = (List.finRange 8).map fun n => f (s.line n) := by
  apply List.ext_getElem
  · simp
  · intro i hi hj
    simp [State.line]

/-- Settles O35: the two responses, and a read after a write by the parameter and the index that it names. -/
theorem readParameterAndStatus : Obligations.ReadParameterAndStatus := by
  refine ⟨fun s a b h => ⟨fun hp => ?_, fun p hp => ⟨fun hi => ?_, fun hi => ?_⟩⟩, fun s ho hopen hc hb => ?_,
    fun ps p i v hi hl hg => ⟨ps.read_write_self hi hg, fun q j hj hne => ?_⟩⟩
  · rw [exec_readParameter h, takeReadParameter_refused _ (fun q hq => by rw [hp] at hq; cases hq)]
    rfl
  · rw [exec_readParameter h, takeReadParameter_refused _ (fun q hq => by
      rw [hp] at hq
      exact Option.some.inj hq ▸ hi)]
    rfl
  · rw [exec_readParameter h, takeReadParameter_answers _ hp hi]
    rfl
  · have hp : s.portOpen = true := by rw [State.portOpen, ho, hopen]; rfl
    rw [exec_readStatus hp hc hb, State.statusResponse, State.map_lines]
    rfl
  · by_cases hq : q = p
    · subst hq
      exact ps.read_write_of_index_ne hi hj (hne.resolve_left (fun h => h rfl)) v
    · exact ps.read_write_of_ne hq i j v

end Sys2Proof.Machine
end

section
/-!
The layout of the status byte (R200), and its snapshot on SDO during the opcode byte (R184): O6.
-/

namespace Sys2Proof.Machine

/-- The flags of the status byte, from bit 0 to bit 7 (R200). -/
def State.statusFlags (s : State) : List Bool :=
  [s.anyLineDown, s.freeLow, s.resetting, s.flagF, s.sourceS, s.sourceQ, s.sourceA, s.signalC]

/-- Each bit of the status byte is the flag at its place. -/
theorem State.statusByte_getLsbD (s : State) {i : Nat} (hi : i < 8) :
    s.statusByte.getLsbD i = s.statusFlags.getD i false := by
  rw [State.statusByte, byteOf_getLsbD, decide_eq_true hi, Bool.true_and, testBit_flagsValue, State.statusFlags]

/-- The fall of CSn puts the status byte of that moment on SDO, before any byte has arrived (R184). -/
theorem State.transactionStart_shows_statusByte {s : State} (hcsn : s.pins.csnHigh = true) (ho : s.operating = true) :
    ∃ t, exec .transactionStart s = .next t ∧ t.port.count = 0 ∧ t.sdo = some s.statusByte := by
  obtain ⟨hfall, -⟩ := responseOnSdo
  obtain ⟨hopen, -⟩ := hfall s hcsn
  obtain ⟨hnext, hsdo⟩ := hopen ho
  exact ⟨_, hnext, rfl, hsdo⟩

/-- Settles O6: each bit by its place among the flags, and their snapshot by the fall of CSn. -/
theorem statusByteBits : Obligations.StatusByteBits := by
  intro s
  have hbit {i : Nat} (hi : i < 8) := s.statusByte_getLsbD hi
  refine ⟨hbit ?_, hbit ?_, hbit ?_, hbit ?_, hbit ?_, hbit ?_, hbit ?_, hbit ?_,
    State.transactionStart_shows_statusByte⟩ <;> decide

end Sys2Proof.Machine
end
